-- ==== Sys2Proof/Word.lean ====
section
/-! DEFINITION. The machine's words (20_memory.md R61, 00_scope.md R9). -/

namespace Sys2Proof

/-- A longword, the size of every register and address (10_state.md R20, 20_memory.md R60). -/
abbrev Word := BitVec 32

/-- A byte, the smallest addressable unit (20_memory.md R61). -/
abbrev Byte := BitVec 8

/-- A 16-bit instruction code (30_encoding.md R100). -/
abbrev Code := BitVec 16

/-- A 4-bit field of an instruction code. -/
abbrev Nibble := BitVec 4

end Sys2Proof
end

