-- ==== Sys2Proof/Syntax.lean ====
section
/-! DEFINITION. The instructions: one constructor for each row of spec/opcode_table.json, its operands in the order the
assembler writes them (30_encoding.md R126), its displacements as field values before scaling (R127). -/

namespace Sys2Proof

/-- The number of a general register (30_encoding.md R102). -/
abbrev Reg := BitVec 4

/-- R0, the fixed operand and index register (10_state.md R21). -/
abbrev Reg.r0 : Reg := 0

/-- R15, the hardware stack pointer (10_state.md R22). -/
abbrev Reg.sp : Reg := 15

/-- The instruction set. -/
inductive Instr where
  -- Data transfer (40_data_transfer.md)
  /-- `MOV Rm,Rn` (R141) -/
  | movReg (m : Reg) (n : Reg)
  /-- `MOV.B Rm,@Rn` (R142) -/
  | movBStore (m : Reg) (n : Reg)
  /-- `MOV.W Rm,@Rn` (R143) -/
  | movWStore (m : Reg) (n : Reg)
  /-- `MOV.L Rm,@Rn` (R144) -/
  | movLStore (m : Reg) (n : Reg)
  /-- `MOV.B @Rm,Rn` (R145) -/
  | movBLoad (m : Reg) (n : Reg)
  /-- `MOV.W @Rm,Rn` (R146) -/
  | movWLoad (m : Reg) (n : Reg)
  /-- `MOV.L @Rm,Rn` (R147) -/
  | movLLoad (m : Reg) (n : Reg)
  /-- `MOV.B Rm,@-Rn` (R148) -/
  | movBStoreDec (m : Reg) (n : Reg)
  /-- `MOV.W Rm,@-Rn` (R149) -/
  | movWStoreDec (m : Reg) (n : Reg)
  /-- `MOV.L Rm,@-Rn` (R150) -/
  | movLStoreDec (m : Reg) (n : Reg)
  /-- `MOV.B @Rm+,Rn` (R151) -/
  | movBLoadInc (m : Reg) (n : Reg)
  /-- `MOV.W @Rm+,Rn` (R152) -/
  | movWLoadInc (m : Reg) (n : Reg)
  /-- `MOV.L @Rm+,Rn` (R153) -/
  | movLLoadInc (m : Reg) (n : Reg)
  /-- `MOV.B Rm,@(R0,Rn)` (R154) -/
  | movBStoreIdx (m : Reg) (n : Reg)
  /-- `MOV.W Rm,@(R0,Rn)` (R155) -/
  | movWStoreIdx (m : Reg) (n : Reg)
  /-- `MOV.L Rm,@(R0,Rn)` (R156) -/
  | movLStoreIdx (m : Reg) (n : Reg)
  /-- `MOV.B @(R0,Rm),Rn` (R157) -/
  | movBLoadIdx (m : Reg) (n : Reg)
  /-- `MOV.W @(R0,Rm),Rn` (R158) -/
  | movWLoadIdx (m : Reg) (n : Reg)
  /-- `MOV.L @(R0,Rm),Rn` (R159) -/
  | movLLoadIdx (m : Reg) (n : Reg)
  /-- `MOV #imm,Rn` (R160) -/
  | movImm (imm : BitVec 8) (n : Reg)
  /-- `MOV.W @(disp,PC),Rn` (R161) -/
  | movWLoadPc (disp : BitVec 8) (n : Reg)
  /-- `MOV.L @(disp,PC),Rn` (R162) -/
  | movLLoadPc (disp : BitVec 8) (n : Reg)
  /-- `MOV.B @(disp,GBR),R0` (R163) -/
  | movBLoadGbr (disp : BitVec 8)
  /-- `MOV.W @(disp,GBR),R0` (R164) -/
  | movWLoadGbr (disp : BitVec 8)
  /-- `MOV.L @(disp,GBR),R0` (R165) -/
  | movLLoadGbr (disp : BitVec 8)
  /-- `MOV.B R0,@(disp,GBR)` (R166) -/
  | movBStoreGbr (disp : BitVec 8)
  /-- `MOV.W R0,@(disp,GBR)` (R167) -/
  | movWStoreGbr (disp : BitVec 8)
  /-- `MOV.L R0,@(disp,GBR)` (R168) -/
  | movLStoreGbr (disp : BitVec 8)
  /-- `MOV.B R0,@(disp,Rn)` (R169) -/
  | movBStoreDisp (disp : BitVec 4) (n : Reg)
  /-- `MOV.W R0,@(disp,Rn)` (R170) -/
  | movWStoreDisp (disp : BitVec 4) (n : Reg)
  /-- `MOV.L Rm,@(disp,Rn)` (R171) -/
  | movLStoreDisp (m : Reg) (disp : BitVec 4) (n : Reg)
  /-- `MOV.B @(disp,Rm),R0` (R172) -/
  | movBLoadDisp (disp : BitVec 4) (m : Reg)
  /-- `MOV.W @(disp,Rm),R0` (R173) -/
  | movWLoadDisp (disp : BitVec 4) (m : Reg)
  /-- `MOV.L @(disp,Rm),Rn` (R174) -/
  | movLLoadDisp (disp : BitVec 4) (m : Reg) (n : Reg)
  /-- `MOVA @(disp,PC),R0` (R175) -/
  | mova (disp : BitVec 8)
  /-- `MOVT Rn` (R176) -/
  | movt (n : Reg)
  /-- `SWAP.B Rm,Rn` (R177) -/
  | swapB (m : Reg) (n : Reg)
  /-- `SWAP.W Rm,Rn` (R178) -/
  | swapW (m : Reg) (n : Reg)
  /-- `XTRCT Rm,Rn` (R179) -/
  | xtrct (m : Reg) (n : Reg)
  -- Arithmetic (41_arithmetic.md)
  /-- `ADD Rm,Rn` (R201) -/
  | add (m : Reg) (n : Reg)
  /-- `ADD #imm,Rn` (R202) -/
  | addImm (imm : BitVec 8) (n : Reg)
  /-- `ADDC Rm,Rn` (R203) -/
  | addc (m : Reg) (n : Reg)
  /-- `ADDV Rm,Rn` (R204) -/
  | addv (m : Reg) (n : Reg)
  /-- `CMP/EQ #imm,R0` (R205) -/
  | cmpEqImm (imm : BitVec 8)
  /-- `CMP/EQ Rm,Rn` (R206) -/
  | cmpEq (m : Reg) (n : Reg)
  /-- `CMP/HS Rm,Rn` (R207) -/
  | cmpHs (m : Reg) (n : Reg)
  /-- `CMP/GE Rm,Rn` (R208) -/
  | cmpGe (m : Reg) (n : Reg)
  /-- `CMP/HI Rm,Rn` (R209) -/
  | cmpHi (m : Reg) (n : Reg)
  /-- `CMP/GT Rm,Rn` (R210) -/
  | cmpGt (m : Reg) (n : Reg)
  /-- `CMP/PL Rn` (R211) -/
  | cmpPl (n : Reg)
  /-- `CMP/PZ Rn` (R212) -/
  | cmpPz (n : Reg)
  /-- `CMP/STR Rm,Rn` (R213) -/
  | cmpStr (m : Reg) (n : Reg)
  /-- `DIV0S Rm,Rn` (R215) -/
  | div0s (m : Reg) (n : Reg)
  /-- `DIV0U` (R216) -/
  | div0u
  /-- `DIV1 Rm,Rn` (R217) -/
  | div1 (m : Reg) (n : Reg)
  /-- `DT Rn` (R219, SH7600 only) -/
  | dt (n : Reg)
  /-- `EXTS.B Rm,Rn` (R220) -/
  | extsB (m : Reg) (n : Reg)
  /-- `EXTS.W Rm,Rn` (R221) -/
  | extsW (m : Reg) (n : Reg)
  /-- `EXTU.B Rm,Rn` (R222) -/
  | extuB (m : Reg) (n : Reg)
  /-- `EXTU.W Rm,Rn` (R223) -/
  | extuW (m : Reg) (n : Reg)
  /-- `NEG Rm,Rn` (R230) -/
  | neg (m : Reg) (n : Reg)
  /-- `NEGC Rm,Rn` (R231) -/
  | negc (m : Reg) (n : Reg)
  /-- `SUB Rm,Rn` (R233) -/
  | sub (m : Reg) (n : Reg)
  /-- `SUBC Rm,Rn` (R234) -/
  | subc (m : Reg) (n : Reg)
  /-- `SUBV Rm,Rn` (R235) -/
  | subv (m : Reg) (n : Reg)
  -- Multiply and accumulate (42_multiply_mac.md)
  /-- `DMULS.L Rm,Rn` (R241, SH7600 only) -/
  | dmulsL (m : Reg) (n : Reg)
  /-- `DMULU.L Rm,Rn` (R242, SH7600 only) -/
  | dmuluL (m : Reg) (n : Reg)
  /-- `MUL.L Rm,Rn` (R243, SH7600 only) -/
  | mulL (m : Reg) (n : Reg)
  /-- `MULS.W Rm,Rn` (R244) -/
  | mulsW (m : Reg) (n : Reg)
  /-- `MULU.W Rm,Rn` (R245) -/
  | muluW (m : Reg) (n : Reg)
  /-- `MAC.L @Rm+,@Rn+` (R247, SH7600 only) -/
  | macL (m : Reg) (n : Reg)
  /-- `MAC.W @Rm+,@Rn+` (R248) -/
  | macW (m : Reg) (n : Reg)
  -- Logic (43_logic.md)
  /-- `AND Rm,Rn` (R261) -/
  | andReg (m : Reg) (n : Reg)
  /-- `AND #imm,R0` (R262) -/
  | andImm (imm : BitVec 8)
  /-- `AND.B #imm,@(R0,GBR)` (R263) -/
  | andMem (imm : BitVec 8)
  /-- `NOT Rm,Rn` (R264) -/
  | notReg (m : Reg) (n : Reg)
  /-- `TAS.B @Rn` (R266) -/
  | tas (n : Reg)
  /-- `OR Rm,Rn` (R267) -/
  | orReg (m : Reg) (n : Reg)
  /-- `OR #imm,R0` (R268) -/
  | orImm (imm : BitVec 8)
  /-- `OR.B #imm,@(R0,GBR)` (R269) -/
  | orMem (imm : BitVec 8)
  /-- `TST Rm,Rn` (R270) -/
  | tstReg (m : Reg) (n : Reg)
  /-- `TST #imm,R0` (R271) -/
  | tstImm (imm : BitVec 8)
  /-- `TST.B #imm,@(R0,GBR)` (R272) -/
  | tstMem (imm : BitVec 8)
  /-- `XOR Rm,Rn` (R274) -/
  | xorReg (m : Reg) (n : Reg)
  /-- `XOR #imm,R0` (R275) -/
  | xorImm (imm : BitVec 8)
  /-- `XOR.B #imm,@(R0,GBR)` (R276) -/
  | xorMem (imm : BitVec 8)
  -- Shift (44_shift.md)
  /-- `ROTL Rn` (R281) -/
  | rotl (n : Reg)
  /-- `ROTR Rn` (R282) -/
  | rotr (n : Reg)
  /-- `ROTCL Rn` (R283) -/
  | rotcl (n : Reg)
  /-- `ROTCR Rn` (R284) -/
  | rotcr (n : Reg)
  /-- `SHAL Rn` (R285) -/
  | shal (n : Reg)
  /-- `SHAR Rn` (R286) -/
  | shar (n : Reg)
  /-- `SHLL Rn` (R287) -/
  | shll (n : Reg)
  /-- `SHLR Rn` (R288) -/
  | shlr (n : Reg)
  /-- `SHLL2 Rn` (R289) -/
  | shll2 (n : Reg)
  /-- `SHLL8 Rn` (R290) -/
  | shll8 (n : Reg)
  /-- `SHLL16 Rn` (R291) -/
  | shll16 (n : Reg)
  /-- `SHLR2 Rn` (R292) -/
  | shlr2 (n : Reg)
  /-- `SHLR8 Rn` (R293) -/
  | shlr8 (n : Reg)
  /-- `SHLR16 Rn` (R294) -/
  | shlr16 (n : Reg)
  -- Branch (45_branch.md)
  /-- `BF label` (R303) -/
  | bf (disp : BitVec 8)
  /-- `BF/S label` (R304, SH7600 only) -/
  | bfS (disp : BitVec 8)
  /-- `BT label` (R305) -/
  | bt (disp : BitVec 8)
  /-- `BT/S label` (R306, SH7600 only) -/
  | btS (disp : BitVec 8)
  /-- `BRA label` (R307) -/
  | bra (disp : BitVec 12)
  /-- `BRAF Rn` (R308, SH7600 only) -/
  | braf (n : Reg)
  /-- `BSR label` (R309) -/
  | bsr (disp : BitVec 12)
  /-- `BSRF Rn` (R310, SH7600 only) -/
  | bsrf (n : Reg)
  /-- `JMP @Rn` (R311) -/
  | jmp (n : Reg)
  /-- `JSR @Rn` (R312) -/
  | jsr (n : Reg)
  /-- `RTS` (R313) -/
  | rts
  -- System control (46_system_control.md)
  /-- `CLRT` (R331) -/
  | clrt
  /-- `CLRMAC` (R332) -/
  | clrmac
  /-- `LDC Rm,SR` (R334) -/
  | ldcSr (m : Reg)
  /-- `LDC.L @Rm+,SR` (R337) -/
  | ldcLSr (m : Reg)
  /-- `LDC Rm,GBR` (R335) -/
  | ldcGbr (m : Reg)
  /-- `LDC.L @Rm+,GBR` (R338) -/
  | ldcLGbr (m : Reg)
  /-- `LDC Rm,VBR` (R336) -/
  | ldcVbr (m : Reg)
  /-- `LDC.L @Rm+,VBR` (R339) -/
  | ldcLVbr (m : Reg)
  /-- `LDS Rm,MACH` (R340) -/
  | ldsMach (m : Reg)
  /-- `LDS.L @Rm+,MACH` (R343) -/
  | ldsLMach (m : Reg)
  /-- `LDS Rm,MACL` (R341) -/
  | ldsMacl (m : Reg)
  /-- `LDS.L @Rm+,MACL` (R344) -/
  | ldsLMacl (m : Reg)
  /-- `LDS Rm,PR` (R342) -/
  | ldsPr (m : Reg)
  /-- `LDS.L @Rm+,PR` (R345) -/
  | ldsLPr (m : Reg)
  /-- `NOP` (R346) -/
  | nop
  /-- `RTE` (R347) -/
  | rte
  /-- `SETT` (R348) -/
  | sett
  /-- `SLEEP` (R349) -/
  | sleep
  /-- `STC SR,Rn` (R352) -/
  | stcSr (n : Reg)
  /-- `STC.L SR,@-Rn` (R355) -/
  | stcLSr (n : Reg)
  /-- `STC GBR,Rn` (R353) -/
  | stcGbr (n : Reg)
  /-- `STC.L GBR,@-Rn` (R356) -/
  | stcLGbr (n : Reg)
  /-- `STC VBR,Rn` (R354) -/
  | stcVbr (n : Reg)
  /-- `STC.L VBR,@-Rn` (R357) -/
  | stcLVbr (n : Reg)
  /-- `STS MACH,Rn` (R358) -/
  | stsMach (n : Reg)
  /-- `STS.L MACH,@-Rn` (R361) -/
  | stsLMach (n : Reg)
  /-- `STS MACL,Rn` (R359) -/
  | stsMacl (n : Reg)
  /-- `STS.L MACL,@-Rn` (R362) -/
  | stsLMacl (n : Reg)
  /-- `STS PR,Rn` (R360) -/
  | stsPr (n : Reg)
  /-- `STS.L PR,@-Rn` (R363) -/
  | stsLPr (n : Reg)
  /-- `TRAPA #imm` (R365) -/
  | trapa (imm : BitVec 8)
deriving DecidableEq, Repr

end Sys2Proof
end

