-- ==== Sys2Proof/Decode.lean ====
section
/-! DEFINITION. The decoder and, after it, the encoder (30_encoding.md R100-R123). Both work on the four nibbles of the
16-bit code; the decoder follows the opcode map R106-R113 group by group. Whether the series has the instruction is not
the decoder's affair (30_encoding.md R120): the meaning of an SH7600-only instruction checks it. -/

namespace Sys2Proof

/-- Why bytes are no instruction. -/
inductive DecodeError where
  /-- fewer than the two bytes of a code (30_encoding.md R100) -/
  | truncated
  /-- a code assigned to no instruction (30_encoding.md R121) -/
  | unassigned (code : Code)
deriving DecidableEq, Repr

/-- Bits 15-12. -/
def nibble3 (w : Code) : Nibble := w.extractLsb' 12 4

/-- Bits 11-8. -/
def nibble2 (w : Code) : Nibble := w.extractLsb' 8 4

/-- Bits 7-4. -/
def nibble1 (w : Code) : Nibble := w.extractLsb' 4 4

/-- Bits 3-0. -/
def nibble0 (w : Code) : Nibble := w.extractLsb' 0 4

/-- An 8-bit field in bits 7-0 of a code. -/
def field8 (c d : Nibble) : BitVec 8 := c ++ d

/-- A 12-bit field in bits 11-0 of a code. -/
def field12 (b c d : Nibble) : BitVec 12 := (b ++ c) ++ d

/-- Group 0000 (30_encoding.md R107). -/
def decode0 (b c d : Nibble) : Option Instr :=
  match d.toNat with
  | 0x2 => match c.toNat with
    | 0 => some (.stcSr b)
    | 1 => some (.stcGbr b)
    | 2 => some (.stcVbr b)
    | _ => none
  | 0x3 => match c.toNat with
    | 0 => some (.bsrf b)
    | 2 => some (.braf b)
    | _ => none
  | 0x4 => some (.movBStoreIdx c b)
  | 0x5 => some (.movWStoreIdx c b)
  | 0x6 => some (.movLStoreIdx c b)
  | 0x7 => some (.mulL c b)
  | 0x8 => if b = 0 then
      match c.toNat with
      | 0 => some .clrt
      | 1 => some .sett
      | 2 => some .clrmac
      | _ => none
    else none
  | 0x9 => match c.toNat with
    | 0 => if b = 0 then some .nop else none
    | 1 => if b = 0 then some .div0u else none
    | 2 => some (.movt b)
    | _ => none
  | 0xA => match c.toNat with
    | 0 => some (.stsMach b)
    | 1 => some (.stsMacl b)
    | 2 => some (.stsPr b)
    | _ => none
  | 0xB => if b = 0 then
      match c.toNat with
      | 0 => some .rts
      | 1 => some .sleep
      | 2 => some .rte
      | _ => none
    else none
  | 0xC => some (.movBLoadIdx c b)
  | 0xD => some (.movWLoadIdx c b)
  | 0xE => some (.movLLoadIdx c b)
  | 0xF => some (.macL c b)
  | _ => none

/-- Group 0010 (30_encoding.md R108). -/
def decode2 (b c d : Nibble) : Option Instr :=
  match d.toNat with
  | 0x0 => some (.movBStore c b)
  | 0x1 => some (.movWStore c b)
  | 0x2 => some (.movLStore c b)
  | 0x4 => some (.movBStoreDec c b)
  | 0x5 => some (.movWStoreDec c b)
  | 0x6 => some (.movLStoreDec c b)
  | 0x7 => some (.div0s c b)
  | 0x8 => some (.tstReg c b)
  | 0x9 => some (.andReg c b)
  | 0xA => some (.xorReg c b)
  | 0xB => some (.orReg c b)
  | 0xC => some (.cmpStr c b)
  | 0xD => some (.xtrct c b)
  | 0xE => some (.muluW c b)
  | 0xF => some (.mulsW c b)
  | _ => none

/-- Group 0011 (30_encoding.md R109). -/
def decode3 (b c d : Nibble) : Option Instr :=
  match d.toNat with
  | 0x0 => some (.cmpEq c b)
  | 0x2 => some (.cmpHs c b)
  | 0x3 => some (.cmpGe c b)
  | 0x4 => some (.div1 c b)
  | 0x5 => some (.dmuluL c b)
  | 0x6 => some (.cmpHi c b)
  | 0x7 => some (.cmpGt c b)
  | 0x8 => some (.sub c b)
  | 0xA => some (.subc c b)
  | 0xB => some (.subv c b)
  | 0xC => some (.add c b)
  | 0xD => some (.dmulsL c b)
  | 0xE => some (.addc c b)
  | 0xF => some (.addv c b)
  | _ => none

/-- Group 0100 with bits 7-4 = 0000 (30_encoding.md R110, first column). -/
def decode40 (r d : Nibble) : Option Instr :=
  match d.toNat with
  | 0x0 => some (.shll r)
  | 0x1 => some (.shlr r)
  | 0x2 => some (.stsLMach r)
  | 0x3 => some (.stcLSr r)
  | 0x4 => some (.rotl r)
  | 0x5 => some (.rotr r)
  | 0x6 => some (.ldsLMach r)
  | 0x7 => some (.ldcLSr r)
  | 0x8 => some (.shll2 r)
  | 0x9 => some (.shlr2 r)
  | 0xA => some (.ldsMach r)
  | 0xB => some (.jsr r)
  | 0xE => some (.ldcSr r)
  | _ => none

/-- Group 0100 with bits 7-4 = 0001 (30_encoding.md R110, second column). -/
def decode41 (r d : Nibble) : Option Instr :=
  match d.toNat with
  | 0x0 => some (.dt r)
  | 0x1 => some (.cmpPz r)
  | 0x2 => some (.stsLMacl r)
  | 0x3 => some (.stcLGbr r)
  | 0x5 => some (.cmpPl r)
  | 0x6 => some (.ldsLMacl r)
  | 0x7 => some (.ldcLGbr r)
  | 0x8 => some (.shll8 r)
  | 0x9 => some (.shlr8 r)
  | 0xA => some (.ldsMacl r)
  | 0xB => some (.tas r)
  | 0xE => some (.ldcGbr r)
  | _ => none

/-- Group 0100 with bits 7-4 = 0010 (30_encoding.md R110, third column). -/
def decode42 (r d : Nibble) : Option Instr :=
  match d.toNat with
  | 0x0 => some (.shal r)
  | 0x1 => some (.shar r)
  | 0x2 => some (.stsLPr r)
  | 0x3 => some (.stcLVbr r)
  | 0x4 => some (.rotcl r)
  | 0x5 => some (.rotcr r)
  | 0x6 => some (.ldsLPr r)
  | 0x7 => some (.ldcLVbr r)
  | 0x8 => some (.shll16 r)
  | 0x9 => some (.shlr16 r)
  | 0xA => some (.ldsPr r)
  | 0xB => some (.jmp r)
  | 0xE => some (.ldcVbr r)
  | _ => none

/-- Group 0100 (30_encoding.md R110): MAC.W for every value of bits 7-4 where bits 3-0 are 1111, else by column. -/
def decode4 (b c d : Nibble) : Option Instr :=
  if d = 0xF then some (.macW c b)
  else match c.toNat with
    | 0 => decode40 b d
    | 1 => decode41 b d
    | 2 => decode42 b d
    | _ => none

/-- Group 0110 (30_encoding.md R111). -/
def decode6 (b c d : Nibble) : Option Instr :=
  match d.toNat with
  | 0x0 => some (.movBLoad c b)
  | 0x1 => some (.movWLoad c b)
  | 0x2 => some (.movLLoad c b)
  | 0x3 => some (.movReg c b)
  | 0x4 => some (.movBLoadInc c b)
  | 0x5 => some (.movWLoadInc c b)
  | 0x6 => some (.movLLoadInc c b)
  | 0x7 => some (.notReg c b)
  | 0x8 => some (.swapB c b)
  | 0x9 => some (.swapW c b)
  | 0xA => some (.negc c b)
  | 0xB => some (.neg c b)
  | 0xC => some (.extuB c b)
  | 0xD => some (.extuW c b)
  | 0xE => some (.extsB c b)
  | _ => some (.extsW c b)

/-- Group 1000 (30_encoding.md R112). -/
def decode8 (b c d : Nibble) : Option Instr :=
  match b.toNat with
  | 0x0 => some (.movBStoreDisp d c)
  | 0x1 => some (.movWStoreDisp d c)
  | 0x4 => some (.movBLoadDisp d c)
  | 0x5 => some (.movWLoadDisp d c)
  | 0x8 => some (.cmpEqImm (field8 c d))
  | 0x9 => some (.bt (field8 c d))
  | 0xB => some (.bf (field8 c d))
  | 0xD => some (.btS (field8 c d))
  | 0xF => some (.bfS (field8 c d))
  | _ => none

/-- Group 1100 (30_encoding.md R113). -/
def decodeC (b c d : Nibble) : Option Instr :=
  match b.toNat with
  | 0x0 => some (.movBStoreGbr (field8 c d))
  | 0x1 => some (.movWStoreGbr (field8 c d))
  | 0x2 => some (.movLStoreGbr (field8 c d))
  | 0x3 => some (.trapa (field8 c d))
  | 0x4 => some (.movBLoadGbr (field8 c d))
  | 0x5 => some (.movWLoadGbr (field8 c d))
  | 0x6 => some (.movLLoadGbr (field8 c d))
  | 0x7 => some (.mova (field8 c d))
  | 0x8 => some (.tstImm (field8 c d))
  | 0x9 => some (.andImm (field8 c d))
  | 0xA => some (.xorImm (field8 c d))
  | 0xB => some (.orImm (field8 c d))
  | 0xC => some (.tstMem (field8 c d))
  | 0xD => some (.andMem (field8 c d))
  | 0xE => some (.xorMem (field8 c d))
  | _ => some (.orMem (field8 c d))

/-- Decoding by the top four bits (30_encoding.md R106). -/
def decodeNibbles (a b c d : Nibble) : Option Instr :=
  match a.toNat with
  | 0x0 => decode0 b c d
  | 0x1 => some (.movLStoreDisp c d b)
  | 0x2 => decode2 b c d
  | 0x3 => decode3 b c d
  | 0x4 => decode4 b c d
  | 0x5 => some (.movLLoadDisp d c b)
  | 0x6 => decode6 b c d
  | 0x7 => some (.addImm (field8 c d) b)
  | 0x8 => decode8 b c d
  | 0x9 => some (.movWLoadPc (field8 c d) b)
  | 0xA => some (.bra (field12 b c d))
  | 0xB => some (.bsr (field12 b c d))
  | 0xC => decodeC b c d
  | 0xD => some (.movLLoadPc (field8 c d) b)
  | 0xE => some (.movImm (field8 c d) b)
  | _ => none

/-- The instruction a 16-bit code stands for, `none` where the code is unassigned (30_encoding.md R121, R123). -/
def decodeWord (w : Code) : Option Instr :=
  decodeNibbles (nibble3 w) (nibble2 w) (nibble1 w) (nibble0 w)

/-- Decoding bytes: the first two make the code, the byte at the lower address its bits 15-8 (30_encoding.md R100,
20_memory.md R62). It answers the instruction with the bytes after it. -/
def decode (bytes : List Byte) : Except DecodeError (Instr × List Byte) :=
  match bytes with
  | hi :: lo :: rest =>
    match decodeWord (hi ++ lo) with
    | some i => .ok (i, rest)
    | none => .error (.unassigned (hi ++ lo))
  | _ => .error .truncated

/-! ### The encoder -/

/-- The code whose nibbles, bits 15-12 first, are `a b c d`. -/
def ofNibbles (a b c d : Nibble) : Code := ((a ++ b) ++ c) ++ d

/-- Bits 7-4 of an 8-bit field. -/
def hiNibble (v : BitVec 8) : Nibble := v.extractLsb' 4 4

/-- Bits 3-0 of an 8-bit field. -/
def loNibble (v : BitVec 8) : Nibble := v.extractLsb' 0 4

/-- Bits `4k+3` to `4k` of a 12-bit field. -/
def nibble12 (k : Nat) (v : BitVec 12) : Nibble := v.extractLsb' (4 * k) 4

/-- The code of an instruction (30_encoding.md R101 and the encoding line of the instruction's own rule). -/
def encode : Instr → Code
  | .movReg m n => ofNibbles 0x6 n m 0x3
  | .movBStore m n => ofNibbles 0x2 n m 0x0
  | .movWStore m n => ofNibbles 0x2 n m 0x1
  | .movLStore m n => ofNibbles 0x2 n m 0x2
  | .movBLoad m n => ofNibbles 0x6 n m 0x0
  | .movWLoad m n => ofNibbles 0x6 n m 0x1
  | .movLLoad m n => ofNibbles 0x6 n m 0x2
  | .movBStoreDec m n => ofNibbles 0x2 n m 0x4
  | .movWStoreDec m n => ofNibbles 0x2 n m 0x5
  | .movLStoreDec m n => ofNibbles 0x2 n m 0x6
  | .movBLoadInc m n => ofNibbles 0x6 n m 0x4
  | .movWLoadInc m n => ofNibbles 0x6 n m 0x5
  | .movLLoadInc m n => ofNibbles 0x6 n m 0x6
  | .movBStoreIdx m n => ofNibbles 0x0 n m 0x4
  | .movWStoreIdx m n => ofNibbles 0x0 n m 0x5
  | .movLStoreIdx m n => ofNibbles 0x0 n m 0x6
  | .movBLoadIdx m n => ofNibbles 0x0 n m 0xC
  | .movWLoadIdx m n => ofNibbles 0x0 n m 0xD
  | .movLLoadIdx m n => ofNibbles 0x0 n m 0xE
  | .movImm imm n => ofNibbles 0xE n (hiNibble imm) (loNibble imm)
  | .movWLoadPc disp n => ofNibbles 0x9 n (hiNibble disp) (loNibble disp)
  | .movLLoadPc disp n => ofNibbles 0xD n (hiNibble disp) (loNibble disp)
  | .movBLoadGbr disp => ofNibbles 0xC 0x4 (hiNibble disp) (loNibble disp)
  | .movWLoadGbr disp => ofNibbles 0xC 0x5 (hiNibble disp) (loNibble disp)
  | .movLLoadGbr disp => ofNibbles 0xC 0x6 (hiNibble disp) (loNibble disp)
  | .movBStoreGbr disp => ofNibbles 0xC 0x0 (hiNibble disp) (loNibble disp)
  | .movWStoreGbr disp => ofNibbles 0xC 0x1 (hiNibble disp) (loNibble disp)
  | .movLStoreGbr disp => ofNibbles 0xC 0x2 (hiNibble disp) (loNibble disp)
  | .movBStoreDisp disp n => ofNibbles 0x8 0x0 n disp
  | .movWStoreDisp disp n => ofNibbles 0x8 0x1 n disp
  | .movLStoreDisp m disp n => ofNibbles 0x1 n m disp
  | .movBLoadDisp disp m => ofNibbles 0x8 0x4 m disp
  | .movWLoadDisp disp m => ofNibbles 0x8 0x5 m disp
  | .movLLoadDisp disp m n => ofNibbles 0x5 n m disp
  | .mova disp => ofNibbles 0xC 0x7 (hiNibble disp) (loNibble disp)
  | .movt n => ofNibbles 0x0 n 0x2 0x9
  | .swapB m n => ofNibbles 0x6 n m 0x8
  | .swapW m n => ofNibbles 0x6 n m 0x9
  | .xtrct m n => ofNibbles 0x2 n m 0xD
  | .add m n => ofNibbles 0x3 n m 0xC
  | .addImm imm n => ofNibbles 0x7 n (hiNibble imm) (loNibble imm)
  | .addc m n => ofNibbles 0x3 n m 0xE
  | .addv m n => ofNibbles 0x3 n m 0xF
  | .cmpEqImm imm => ofNibbles 0x8 0x8 (hiNibble imm) (loNibble imm)
  | .cmpEq m n => ofNibbles 0x3 n m 0x0
  | .cmpHs m n => ofNibbles 0x3 n m 0x2
  | .cmpGe m n => ofNibbles 0x3 n m 0x3
  | .cmpHi m n => ofNibbles 0x3 n m 0x6
  | .cmpGt m n => ofNibbles 0x3 n m 0x7
  | .cmpPl n => ofNibbles 0x4 n 0x1 0x5
  | .cmpPz n => ofNibbles 0x4 n 0x1 0x1
  | .cmpStr m n => ofNibbles 0x2 n m 0xC
  | .div0s m n => ofNibbles 0x2 n m 0x7
  | .div0u => ofNibbles 0x0 0x0 0x1 0x9
  | .div1 m n => ofNibbles 0x3 n m 0x4
  | .dt n => ofNibbles 0x4 n 0x1 0x0
  | .extsB m n => ofNibbles 0x6 n m 0xE
  | .extsW m n => ofNibbles 0x6 n m 0xF
  | .extuB m n => ofNibbles 0x6 n m 0xC
  | .extuW m n => ofNibbles 0x6 n m 0xD
  | .neg m n => ofNibbles 0x6 n m 0xB
  | .negc m n => ofNibbles 0x6 n m 0xA
  | .sub m n => ofNibbles 0x3 n m 0x8
  | .subc m n => ofNibbles 0x3 n m 0xA
  | .subv m n => ofNibbles 0x3 n m 0xB
  | .dmulsL m n => ofNibbles 0x3 n m 0xD
  | .dmuluL m n => ofNibbles 0x3 n m 0x5
  | .mulL m n => ofNibbles 0x0 n m 0x7
  | .mulsW m n => ofNibbles 0x2 n m 0xF
  | .muluW m n => ofNibbles 0x2 n m 0xE
  | .macL m n => ofNibbles 0x0 n m 0xF
  | .macW m n => ofNibbles 0x4 n m 0xF
  | .andReg m n => ofNibbles 0x2 n m 0x9
  | .andImm imm => ofNibbles 0xC 0x9 (hiNibble imm) (loNibble imm)
  | .andMem imm => ofNibbles 0xC 0xD (hiNibble imm) (loNibble imm)
  | .notReg m n => ofNibbles 0x6 n m 0x7
  | .tas n => ofNibbles 0x4 n 0x1 0xB
  | .orReg m n => ofNibbles 0x2 n m 0xB
  | .orImm imm => ofNibbles 0xC 0xB (hiNibble imm) (loNibble imm)
  | .orMem imm => ofNibbles 0xC 0xF (hiNibble imm) (loNibble imm)
  | .tstReg m n => ofNibbles 0x2 n m 0x8
  | .tstImm imm => ofNibbles 0xC 0x8 (hiNibble imm) (loNibble imm)
  | .tstMem imm => ofNibbles 0xC 0xC (hiNibble imm) (loNibble imm)
  | .xorReg m n => ofNibbles 0x2 n m 0xA
  | .xorImm imm => ofNibbles 0xC 0xA (hiNibble imm) (loNibble imm)
  | .xorMem imm => ofNibbles 0xC 0xE (hiNibble imm) (loNibble imm)
  | .rotl n => ofNibbles 0x4 n 0x0 0x4
  | .rotr n => ofNibbles 0x4 n 0x0 0x5
  | .rotcl n => ofNibbles 0x4 n 0x2 0x4
  | .rotcr n => ofNibbles 0x4 n 0x2 0x5
  | .shal n => ofNibbles 0x4 n 0x2 0x0
  | .shar n => ofNibbles 0x4 n 0x2 0x1
  | .shll n => ofNibbles 0x4 n 0x0 0x0
  | .shlr n => ofNibbles 0x4 n 0x0 0x1
  | .shll2 n => ofNibbles 0x4 n 0x0 0x8
  | .shll8 n => ofNibbles 0x4 n 0x1 0x8
  | .shll16 n => ofNibbles 0x4 n 0x2 0x8
  | .shlr2 n => ofNibbles 0x4 n 0x0 0x9
  | .shlr8 n => ofNibbles 0x4 n 0x1 0x9
  | .shlr16 n => ofNibbles 0x4 n 0x2 0x9
  | .bf disp => ofNibbles 0x8 0xB (hiNibble disp) (loNibble disp)
  | .bfS disp => ofNibbles 0x8 0xF (hiNibble disp) (loNibble disp)
  | .bt disp => ofNibbles 0x8 0x9 (hiNibble disp) (loNibble disp)
  | .btS disp => ofNibbles 0x8 0xD (hiNibble disp) (loNibble disp)
  | .bra disp => ofNibbles 0xA (nibble12 2 disp) (nibble12 1 disp) (nibble12 0 disp)
  | .braf n => ofNibbles 0x0 n 0x2 0x3
  | .bsr disp => ofNibbles 0xB (nibble12 2 disp) (nibble12 1 disp) (nibble12 0 disp)
  | .bsrf n => ofNibbles 0x0 n 0x0 0x3
  | .jmp n => ofNibbles 0x4 n 0x2 0xB
  | .jsr n => ofNibbles 0x4 n 0x0 0xB
  | .rts => ofNibbles 0x0 0x0 0x0 0xB
  | .clrt => ofNibbles 0x0 0x0 0x0 0x8
  | .clrmac => ofNibbles 0x0 0x0 0x2 0x8
  | .ldcSr m => ofNibbles 0x4 m 0x0 0xE
  | .ldcLSr m => ofNibbles 0x4 m 0x0 0x7
  | .ldcGbr m => ofNibbles 0x4 m 0x1 0xE
  | .ldcLGbr m => ofNibbles 0x4 m 0x1 0x7
  | .ldcVbr m => ofNibbles 0x4 m 0x2 0xE
  | .ldcLVbr m => ofNibbles 0x4 m 0x2 0x7
  | .ldsMach m => ofNibbles 0x4 m 0x0 0xA
  | .ldsLMach m => ofNibbles 0x4 m 0x0 0x6
  | .ldsMacl m => ofNibbles 0x4 m 0x1 0xA
  | .ldsLMacl m => ofNibbles 0x4 m 0x1 0x6
  | .ldsPr m => ofNibbles 0x4 m 0x2 0xA
  | .ldsLPr m => ofNibbles 0x4 m 0x2 0x6
  | .nop => ofNibbles 0x0 0x0 0x0 0x9
  | .rte => ofNibbles 0x0 0x0 0x2 0xB
  | .sett => ofNibbles 0x0 0x0 0x1 0x8
  | .sleep => ofNibbles 0x0 0x0 0x1 0xB
  | .stcSr n => ofNibbles 0x0 n 0x0 0x2
  | .stcLSr n => ofNibbles 0x4 n 0x0 0x3
  | .stcGbr n => ofNibbles 0x0 n 0x1 0x2
  | .stcLGbr n => ofNibbles 0x4 n 0x1 0x3
  | .stcVbr n => ofNibbles 0x0 n 0x2 0x2
  | .stcLVbr n => ofNibbles 0x4 n 0x2 0x3
  | .stsMach n => ofNibbles 0x0 n 0x0 0xA
  | .stsLMach n => ofNibbles 0x4 n 0x0 0x2
  | .stsMacl n => ofNibbles 0x0 n 0x1 0xA
  | .stsLMacl n => ofNibbles 0x4 n 0x1 0x2
  | .stsPr n => ofNibbles 0x0 n 0x2 0xA
  | .stsLPr n => ofNibbles 0x4 n 0x2 0x2
  | .trapa imm => ofNibbles 0xC 0x3 (hiNibble imm) (loNibble imm)

/-- The two bytes of an instruction in memory order (20_memory.md R62). -/
def encodeBytes (i : Instr) : List Byte :=
  [(encode i).extractLsb' 8 8, (encode i).extractLsb' 0 8]

/-- The instruction the decoder reads from an instruction whose bits are `w`, of which `nbits` are given and the others
are 0. Every code has 16 bits; the code is laid out as the hardware stores it. -/
def decodeTableWord (nbits w : Nat) : Option Instr :=
  let code := BitVec.ofNat 16 (w % 2 ^ nbits)
  match decode [code.extractLsb' 8 8, code.extractLsb' 0 8] with
  | .ok (i, _) => some i
  | .error _ => none

end Sys2Proof
end

