-- ==== Sys2Proof/Config.lean ====
section
/-! DEFINITION. What a chip fixes (00_scope.md R7) and the free values the manual leaves open.
The parameters are plain data that the state carries and no step changes, so a statement about every state is a
statement about every chip; the free values are constants without a body, so nothing can be proved of a particular one. -/

namespace Sys2Proof

/-- The two series of 00_scope.md R2. -/
inductive Series where
  | sh7000
  | sh7600
deriving DecidableEq, Repr

/-- The two kinds of reset (60_exceptions.md R431). -/
inductive ResetKind where
  | powerOn
  | manual
deriving DecidableEq, Repr

/-- What an address is (20_memory.md R75). -/
inductive RegionKind where
  /-- ordinary memory -/
  | ram
  /-- on-chip peripheral register 8-bit space: no longword access, no fetch -/
  | periph8
  /-- other on-chip peripheral register space: no fetch -/
  | periph16
  /-- an address that hits nothing: the model has no step for it -/
  | unmapped
deriving DecidableEq, Repr

/-- One region of a `MemoryMap`: the addresses from `base` up to, not including, `base + size`. -/
structure Region where
  base : Nat
  size : Nat
  kind : RegionKind
deriving DecidableEq, Repr

/-- The parameters of 00_scope.md R7 (`VecIRQ` is carried by each interrupt request, `AddrErrSavedPC` is the free
value `Config.addrErrSavedPC`). -/
structure Params where
  series : Series
  vecPowerOnPC : BitVec 8
  vecPowerOnSP : BitVec 8
  vecManualPC : BitVec 8
  vecManualSP : BitVec 8
  vecIllegal : BitVec 8
  vecSlotIllegal : BitVec 8
  vecAddrErrCPU : BitVec 8
  vecAddrErrDMA : BitVec 8
  vecNMI : BitVec 8
  vecUserBreak : BitVec 8
  memoryMap : List Region
deriving DecidableEq, Repr

/-- The parameters `State.reset` carries: the SH7600 (DESIGN CHOICE, unsafe, log 1), the family's vector numbers
(60_exceptions.md R402, 93_implementation_defined.md G1 and G6; PRESUMED, unsafe, log 2), and every address ordinary
memory (the default of 20_memory.md R75; DESIGN CHOICE, unsafe, log 3). -/
def Params.default : Params where
  series := .sh7600
  vecPowerOnPC := 0
  vecPowerOnSP := 1
  vecManualPC := 2
  vecManualSP := 3
  vecIllegal := 4
  vecSlotIllegal := 6
  vecAddrErrCPU := 9
  vecAddrErrDMA := 10
  vecNMI := 11
  vecUserBreak := 12
  memoryMap := []

/-- The byte that an address nothing has written delivers: the contents of ROM, or whatever RAM holds after power-on
(70_reset_and_hazards.md R452, 93_implementation_defined.md U14; log 5). -/
opaque Config.initialByte : Nat → Byte

/-- The PC value that a CPU address error stacks, one for each draw (60_exceptions.md R419,
93_implementation_defined.md U10; log 9). -/
opaque Config.addrErrSavedPC : Nat → Word

/-- What a read of a device register delivers, one for each draw (20_memory.md R72, R75,
93_implementation_defined.md U13; log 15). -/
opaque Config.deviceRead : Nat → Word

/-- What a register that Table 2.1 calls undefined holds after a reset taken during a run, one for each draw
(10_state.md R40, 93_implementation_defined.md U1; log 8). -/
opaque Config.undefinedWord : Nat → Word

end Sys2Proof
end

