-- ==== Sys2Proof/Machine/State.lean ====
section
/-! DEFINITION. The state of the machine (10_state.md), plain data throughout, the reasons a step can stop, and the
machine right after reset. -/

namespace Sys2Proof.Machine

/-- The five fields of the status register (10_state.md R24, R25); its reserved bits are always 0 and are not held. -/
structure StatusReg where
  /-- bit 9, divisor sign of a division in progress -/
  m : Bool
  /-- bit 8, quotient bit of a division in progress -/
  q : Bool
  /-- bits 7-4, the interrupt mask I3-I0 -/
  i : BitVec 4
  /-- bit 1, saturating multiply and accumulate -/
  s : Bool
  /-- bit 0, true/false, carry/borrow, overflow -/
  t : Bool
deriving DecidableEq, Repr

/-- The processing states (10_state.md R39, 60_exceptions.md R430). -/
inductive Mode where
  /-- the reset state, with the kind of reset that entered it (R431) -/
  | reset (kind : ResetKind)
  /-- the transient exception processing state (R432); no step of the model stops in it -/
  | exceptionProcessing
  /-- program execution (R433) -/
  | programExecution
  /-- sleep mode (R435) -/
  | sleep
  /-- standby mode (R436) -/
  | standby
  /-- bus release (R437), with whether it was entered from sleep mode -/
  | busRelease (asleep : Bool)
deriving DecidableEq, Repr

/-- The size of a memory access (20_memory.md R61). -/
inductive Size where
  | byte
  | word
  | long
deriving DecidableEq, Repr

/-- An interrupt request as the environment offers it (60_exceptions.md R410, R413). -/
inductive Request where
  /-- the NMI pin: level 16 -/
  | nmi
  /-- the user break controller -/
  | userBreak (level : BitVec 4)
  /-- an external interrupt pin other than NMI or an on-chip module, with its vector number `VecIRQ(src)` -/
  | irq (vector : BitVec 8) (level : BitVec 4)
deriving DecidableEq, Repr

/-- What the environment presents at one instruction boundary (00_scope.md R7, R8; log 4). -/
structure EnvInput where
  /-- a reset request and its kind (60_exceptions.md R431) -/
  reset : Option ResetKind
  /-- another device asks for the bus, or still holds it (R437) -/
  busRequest : Bool
  /-- the bytes it writes while it has the bus, in order -/
  busWrites : List (Word × Byte)
  /-- the DMAC reports an address error of its own (R407) -/
  dmaError : Bool
  /-- the pending interrupt requests, those of equal level in the environment's order (R403, R410) -/
  requests : List Request
  /-- a new value of the SBY bit of SBYCR, if it changes (R434) -/
  sby : Option Bool
deriving DecidableEq, Repr

/-- A boundary at which nothing happens outside the CPU. -/
def EnvInput.quiet : EnvInput where
  reset := none
  busRequest := false
  busWrites := []
  dmaError := false
  requests := []
  sby := none

/-- A write that went to a device register (20_memory.md R72, R75; log 15). -/
structure DeviceWrite where
  addr : Word
  size : Size
  /-- the value, its bits above the size 0 -/
  value : Word
deriving DecidableEq, Repr

/-- The state of the machine. -/
structure State where
  /-- R0-R15 (10_state.md R20) -/
  r : Vector Word 16
  /-- SR (R24) -/
  sr : StatusReg
  /-- GBR (R31) -/
  gbr : Word
  /-- VBR (R32) -/
  vbr : Word
  /-- MACH (R33) -/
  mach : Word
  /-- MACL (R33) -/
  macl : Word
  /-- PR (R34) -/
  pr : Word
  /-- the address of the next instruction to execute (R35) -/
  pc : Word
  /-- the destination of a delayed branch whose slot instruction is next (R37) -/
  slot : Option Word
  /-- no interrupt is accepted before the next instruction (R38) -/
  inhibit : Bool
  /-- the last instruction was a BF/S or BT/S that did not branch (45_branch.md R315; log 16) -/
  afterUntaken : Bool
  /-- the processing state (R39) -/
  mode : Mode
  /-- memory: the bytes that hold a value, addresses strictly rising (20_memory.md R60, R61; log 5) -/
  mem : List Host.Cell
  /-- what the chip fixes (00_scope.md R7); no step changes it -/
  params : Params
  /-- what the environment presents at the coming boundaries; after the last entry nothing happens (log 4) -/
  inputs : List EnvInput
  /-- the SBY bit of SBYCR as the environment last presented it (60_exceptions.md R434; log 17), which a reset leaves as it is
  (DESIGN CHOICE, log 34); on a chip without devices SLEEP reads 0 whatever it is -/
  sby : Bool
  /-- the writes that went to device registers, newest first (log 15) -/
  deviceWrites : List DeviceWrite
  /-- how many free values have been drawn: the model's own counter (log 33) -/
  draws : Nat
deriving DecidableEq, Repr

/-- The faults: states from which the spec gives no step. -/
inductive Fault where
  /-- Raised by taking an exception, and by the reset sequence, when a stack access or the vector fetch is itself an
  address error (60_exceptions.md R409; log 13). Safe: the machine stops where the spec says the model is stuck. -/
  | addressErrorInEntry
  /-- Raised by every data access, fetch, stacking and vector fetch at an address that the memory map calls unmapped
  (20_memory.md R75; log 14). Safe: the spec gives such an access no step. -/
  | unmappedAccess
deriving DecidableEq, Repr

/-- The refusals: programs the spec gives no meaning. -/
inductive Refusal where
  /-- Raised by `exec` for an instruction that has no meaning yet. Safe: no statement holds of it. -/
  | notModelled (mnemonic : String)
  /-- Raised when an unassigned code or one of the thirteen instructions of 45_branch.md R301 stands directly after a
  BF/S or BT/S that did not branch (R315 (c); log 16). Safe: the spec says a model refuses such a run. -/
  | disputedAfterUntaken
deriving DecidableEq, Repr

/-- The outcome of a step or of an instruction. -/
abbrev Result := Host.Outcome State Fault Refusal

/-- The outcome of one memory access: a value, an address error (20_memory.md R64-R67), or an unmapped address (R75). -/
inductive Access (α : Type) where
  | ok (value : α)
  | addressError
  | unmapped
deriving DecidableEq, Repr

/-- The machine right after power-on, in the reset state (10_state.md R40, 70_reset_and_hazards.md R450): SR.I is 1111, VBR
is 0, nothing is listed in memory. R0-R14, GBR, MACH, MACL, PR and the bits M, Q, S, T are 0 (the manual leaves them
undefined: DESIGN CHOICE, unsafe, log 6); R15 and PC are 0 until the first step loads them from the vector table
(DESIGN CHOICE, log 7). -/
def State.reset : State where
  r := Vector.replicate 16 0
  sr := { m := false, q := false, i := 0xF, s := false, t := false }
  gbr := 0
  vbr := 0
  mach := 0
  macl := 0
  pr := 0
  pc := 0
  slot := none
  inhibit := false
  afterUntaken := false
  mode := .reset .powerOn
  mem := []
  params := Params.default
  inputs := []
  sby := false
  deviceWrites := []
  draws := 0

end Sys2Proof.Machine
end

