-- ==== Sys2Proof/Machine/Flags.lean ====
section
/-! DEFINITION. The status register as a 32-bit value (10_state.md R24-R26) and every flag computation of the instruction
set, as functions of words. -/

namespace Sys2Proof.Machine

/-- A bit as a longword. -/
def bitWord (b : Bool) : Word := (BitVec.ofBool b).zeroExtend 32

/-- A bit as a number. -/
def bitNat (b : Bool) : Nat := if b then 1 else 0

/-- SR as a 32-bit value: M at 9, Q at 8, I at 7-4, S at 1, T at 0, reserved bits 0 (10_state.md R25). -/
def StatusReg.toWord (f : StatusReg) : Word :=
  (BitVec.ofBool f.m ++ (BitVec.ofBool f.q ++ (f.i ++ (0#2 ++ (BitVec.ofBool f.s ++ BitVec.ofBool f.t))))).zeroExtend 32

/-- SR loaded as a whole: the reserved bits are dropped (10_state.md R25, 46_system_control.md R330 (2)). -/
def StatusReg.ofWord (v : Word) : StatusReg where
  m := v.getLsbD 9
  q := v.getLsbD 8
  i := v.extractLsb' 4 4
  s := v.getLsbD 1
  t := v.getLsbD 0

/-- A longword with bits 31-10 replaced by copies of bit 9: MACH of the SH7000 (10_state.md R33). -/
def signExtend10 (v : Word) : Word := (v.extractLsb' 0 10).signExtend 32

/-- A word-level result with the T bit that goes with it. -/
structure WithT where
  value : Word
  t : Bool
deriving DecidableEq, Repr

/-- Addition with carry (41_arithmetic.md R203). -/
def addCarry (a b : Word) (t : Bool) : WithT :=
  let sum := a.toNat + b.toNat + bitNat t
  { value := BitVec.ofNat 32 sum, t := decide (2 ^ 32 ≤ sum) }

/-- Subtraction with borrow (41_arithmetic.md R231, R234). -/
def subBorrow (a b : Word) (t : Bool) : WithT :=
  let d : Int := (a.toNat : Int) - b.toNat - bitNat t
  { value := BitVec.ofInt 32 d, t := decide (d < 0) }

/-- Addition with signed overflow (41_arithmetic.md R204). -/
def addOverflow (a b : Word) : WithT :=
  let r := a + b
  { value := r, t := (a.msb == b.msb) && (r.msb != a.msb) }

/-- Subtraction with signed overflow, `a - b` (41_arithmetic.md R235). -/
def subOverflow (a b : Word) : WithT :=
  let r := a - b
  { value := r, t := (a.msb != b.msb) && (r.msb != a.msb) }

/-- Some byte of one equals the byte of the other in the same place (41_arithmetic.md R213). -/
def someByteEqual (a b : Word) : Bool :=
  let x := a ^^^ b
  (x.extractLsb' 24 8 == 0) || (x.extractLsb' 16 8 == 0) || (x.extractLsb' 8 8 == 0) || (x.extractLsb' 0 8 == 0)

/-- The outcome of one division step: the partial remainder and the new Q and T. -/
structure DivStep where
  value : Word
  q : Bool
  t : Bool
deriving DecidableEq, Repr

/-- One division step (41_arithmetic.md R217) from `shifted`, the partial remainder already shifted with T in bit 0:
`out` is the bit shifted out, `d` the divisor as read after the shift. -/
def divStep (m oldQ out : Bool) (shifted d : Word) : DivStep :=
  let value := if oldQ = m then shifted - d else shifted + d
  let c := if oldQ = m then decide (shifted.toNat < value.toNat) else decide (value.toNat < shifted.toNat)
  let q := (out ^^ m) ^^ c
  { value := value, q := q, t := q == m }

/-- An integer limited to a range (42_multiply_mac.md R247, R248). -/
def clamp (lo hi r : Int) : Int := if r < lo then lo else if hi < r then hi else r

end Sys2Proof.Machine
end

