-- ==== Sys2Proof/Machine/Memory.lean ====
section
/-! DEFINITION. Memory (20_memory.md): the byte list, big-endian access, the address map, and the two primitives MemRead
and MemWrite with the conditions under which they raise an address error. -/

namespace Sys2Proof.Machine

/-! ### The list of bytes -/

/-- The byte listed at an address. An unlisted address holds no value (70_reset_and_hazards.md R452; log 5). -/
def Memory.lookup : List Host.Cell → Nat → Option Byte
  | [], _ => none
  | (k, b) :: rest, a => if a = k then some b else Memory.lookup rest a

/-- The list with a byte written, in its place in the order of addresses. -/
def Memory.insert : List Host.Cell → Nat → Byte → List Host.Cell
  | [], a, v => [(a, v)]
  | (k, b) :: rest, a, v =>
    if a < k then (a, v) :: (k, b) :: rest
    else if a = k then (a, v) :: rest
    else (k, b) :: Memory.insert rest a v

/-- The canonical form: addresses strictly rising, all within the 32-bit address space (20_memory.md R60). -/
def Memory.wf : List Host.Cell → Bool
  | [] => true
  | [(k, _)] => decide (k < 2 ^ 32)
  | (k, _) :: (k', b') :: rest => decide (k < k') && Memory.wf ((k', b') :: rest)

/-! ### Bytes of a state -/

/-- The byte at an address. One that nothing has written is a free value (70_reset_and_hazards.md R452,
93_implementation_defined.md U14; log 5). -/
def State.byteAt (s : State) (a : Word) : Byte :=
  (Memory.lookup s.mem a.toNat).getD (Config.initialByte a.toNat)

/-- The state with one byte written. -/
def State.setByte (s : State) (a : Word) (v : Byte) : State :=
  { s with mem := Memory.insert s.mem a.toNat v }

/-- The number of bytes of an access. -/
def Size.bytes : Size → Nat
  | .byte => 1
  | .word => 2
  | .long => 4

/-- The word at an address, big-endian (20_memory.md R62). -/
def State.wordAt (s : State) (a : Word) : BitVec 16 :=
  s.byteAt a ++ s.byteAt (a + 1)

/-- The longword at an address, big-endian (20_memory.md R62). -/
def State.longAt (s : State) (a : Word) : Word :=
  s.wordAt a ++ s.wordAt (a + 2)

/-- The value of a size at an address, zero-extended. -/
def State.valueAt (s : State) (a : Word) : Size → Word
  | .byte => (s.byteAt a).zeroExtend 32
  | .word => (s.wordAt a).zeroExtend 32
  | .long => s.longAt a

/-- Byte `k` of a longword, byte 0 being bits 7-0. -/
def byteOf (v : Word) (k : Nat) : Byte := v.extractLsb' (8 * k) 8

/-- The state with a value of a size written, big-endian (20_memory.md R62); the bits above the size are ignored (R69). -/
def State.putValue (s : State) (a : Word) (v : Word) : Size → State
  | .byte => s.setByte a (byteOf v 0)
  | .word => (s.setByte a (byteOf v 1)).setByte (a + 1) (byteOf v 0)
  | .long =>
    (((s.setByte a (byteOf v 3)).setByte (a + 1) (byteOf v 2)).setByte (a + 2) (byteOf v 1)).setByte (a + 3)
      (byteOf v 0)

/-- The addresses of an access, rising. -/
def Size.span (a : Word) : Size → List Word
  | .byte => [a]
  | .word => [a, a + 1]
  | .long => [a, a + 1, a + 2, a + 3]

/-- A value cut to a size, zero-extended. -/
def Size.cut (v : Word) : Size → Word
  | .byte => (v.extractLsb' 0 8).zeroExtend 32
  | .word => (v.extractLsb' 0 16).zeroExtend 32
  | .long => v

/-- A value of a size sign-extended to a longword (20_memory.md R69). -/
def Size.signExtend (v : Word) : Size → Word
  | .byte => (v.extractLsb' 0 8).signExtend 32
  | .word => (v.extractLsb' 0 16).signExtend 32
  | .long => v

/-! ### The address map and the access primitives -/

/-- The kind of the first region that contains an address; an address in none is ordinary memory (20_memory.md R75;
log 3). -/
def regionIn : List Region → Nat → RegionKind
  | [], _ => .ram
  | g :: rest, a => if g.base ≤ a ∧ a < g.base + g.size then g.kind else regionIn rest a

/-- The kind of an address. A wide access is of the kind of its first byte (log 3). -/
def State.region (s : State) (a : Word) : RegionKind := regionIn s.params.memoryMap a.toNat

/-- A kind of device registers (20_memory.md R75). -/
def isDevice : RegionKind → Bool
  | .periph8 => true
  | .periph16 => true
  | .ram => false
  | .unmapped => false

/-- The memory map has a device register at some address (60_exceptions.md R434). Where a region is the first to contain an
address, the lowest such address is the base of a region or the end of one, so these alone are looked at. -/
def hasDevices (map : List Region) : Bool :=
  (map.map (fun g => g.base) ++ map.map fun g => g.base + g.size).any fun a =>
    decide (a < 2 ^ 32) && isDevice (regionIn map a)

/-- An address is a multiple of the size (20_memory.md R64). -/
def Size.aligned (sz : Size) (a : Word) : Bool := a.toNat % sz.bytes == 0

/-- The counter of free values set (log 33). -/
def State.setDraws (s : State) (d : Nat) : State := { s with draws := d }

/-- A read of a device register: a free value (20_memory.md R72, R75; log 15). -/
def State.deviceRead (s : State) (sz : Size) : Word × State :=
  (sz.cut (Config.deviceRead s.draws), s.setDraws (s.draws + 1))

/-- A write to a device register: passed to the environment, memory unchanged (20_memory.md R72, R75; log 15). -/
def State.deviceWrite (s : State) (a : Word) (v : Word) (sz : Size) : State :=
  { s with deviceWrites := { addr := a, size := sz, value := sz.cut v } :: s.deviceWrites }

/-- `MemRead(a, size)` (20_memory.md R62, R64-R66, R75): the value zero-extended, and the state after the read. -/
def State.memRead (s : State) (a : Word) (sz : Size) : Access (Word × State) :=
  if sz.aligned a then
    match s.region a with
    | .ram => .ok (s.valueAt a sz, s)
    | .periph8 => if sz = .long then .addressError else .ok (s.deviceRead sz)
    | .periph16 => .ok (s.deviceRead sz)
    | .unmapped => .unmapped
  else .addressError

/-- `MemWrite(a, size, v)` (20_memory.md R62, R64-R66, R75). -/
def State.memWrite (s : State) (a : Word) (sz : Size) (v : Word) : Access State :=
  if sz.aligned a then
    match s.region a with
    | .ram => .ok (s.putValue a v sz)
    | .periph8 => if sz = .long then .addressError else .ok (s.deviceWrite a v sz)
    | .periph16 => .ok (s.deviceWrite a v sz)
    | .unmapped => .unmapped
  else .addressError

/-- `InstrFetch(a)` (20_memory.md R67): an odd address and on-chip peripheral register space are address errors. A
fetch changes nothing. -/
def State.instrFetch (s : State) (a : Word) : Access Code :=
  if Size.word.aligned a then
    match s.region a with
    | .ram => .ok (s.wordAt a)
    | .periph8 => .addressError
    | .periph16 => .addressError
    | .unmapped => .unmapped
  else .addressError

end Sys2Proof.Machine
end

