-- ==== Sys2Proof/Machine/Ops.lean ====
section
/-! DEFINITION. The named operations over registers and memory, the end of an instruction, taking an exception, returning
from one, and the guards an instruction stands behind. -/

namespace Sys2Proof.Machine

/-! ### Registers -/

/-- R[n] (10_state.md R20). -/
def State.reg (s : State) (n : Reg) : Word := s.r[n.toNat]'n.isLt

/-- R[n] written. -/
def State.setReg (s : State) (n : Reg) (v : Word) : State :=
  { s with r := s.r.set n.toNat v n.isLt }

/-- The T bit written, the other bits of SR unchanged (10_state.md R27). -/
def State.setT (s : State) (t : Bool) : State :=
  { s with sr := { s.sr with t := t } }

/-- The bits Q and T written. -/
def State.setQT (s : State) (q t : Bool) : State :=
  { s with sr := { s.sr with q := q, t := t } }

/-- The bits M, Q and T written. -/
def State.setMQT (s : State) (m q t : Bool) : State :=
  { s with sr := { s.sr with m := m, q := q, t := t } }

/-- SR written as a whole (10_state.md R25). -/
def State.setSr (s : State) (v : Word) : State :=
  { s with sr := StatusReg.ofWord v }

/-- GBR written. -/
def State.setGbr (s : State) (v : Word) : State := { s with gbr := v }

/-- VBR written. -/
def State.setVbr (s : State) (v : Word) : State := { s with vbr := v }

/-- PR written. -/
def State.setPr (s : State) (v : Word) : State := { s with pr := v }

/-- MACL written. -/
def State.setMacl (s : State) (v : Word) : State := { s with macl := v }

/-- What MACH holds of a value: all of it on the SH7600, its low 10 bits sign-extended on the SH7000 (10_state.md R33). -/
def machForm (ser : Series) (v : Word) : Word :=
  match ser with
  | .sh7600 => v
  | .sh7000 => signExtend10 v

/-- MACH written (10_state.md R33). -/
def State.setMach (s : State) (v : Word) : State := { s with mach := machForm s.params.series v }

/-- MACH read (10_state.md R33, 46_system_control.md R358). -/
def State.machValue (s : State) : Word := machForm s.params.series s.mach

/-- The accumulator MACH:MACL (10_state.md R33). -/
def State.mac (s : State) : BitVec 64 := s.machValue ++ s.macl

/-- MACH:MACL written. -/
def State.setMac (s : State) (v : BitVec 64) : State :=
  (s.setMach (v.extractLsb' 32 32)).setMacl (v.extractLsb' 0 32)

/-- The processing state set (10_state.md R39). -/
def State.setMode (s : State) (mode : Mode) : State := { s with mode := mode }

/-- The SBY bit as SLEEP reads it: what the environment presents, and 0 on a chip whose memory map has no device
(60_exceptions.md R434; log 17). -/
def State.standbyBit (s : State) : Bool := s.sby && hasDevices s.params.memoryMap

/-! ### The end of an instruction -/

/-- Where control goes after an instruction that is no taken branch: on to the next one, or, from a delay slot, to the
destination of the branch (10_state.md R35, R37). -/
def State.nextPc (s : State) : Word :=
  match s.slot with
  | none => s.pc + 2
  | some t => t

/-- The value of PC an instruction sees (00_scope.md R12, 10_state.md R37). -/
def State.pcValue (s : State) : Word :=
  match s.slot with
  | none => s.pc + 4
  | some t => t + 2

/-- Sequential completion: `pc <- a + 2`, the slot completed and `inhibit` cleared (10_state.md R37, R38). -/
def State.advance (s : State) : State :=
  { s with pc := s.nextPc, slot := none, inhibit := false, afterUntaken := false }

/-- The completion of an interrupt-disabled instruction (10_state.md R38, 46_system_control.md R333). -/
def State.advanceInhibit (s : State) : State :=
  { s with pc := s.nextPc, slot := none, inhibit := true, afterUntaken := false }

/-- The completion of a BF/S or BT/S that does not branch (45_branch.md R315; log 16). -/
def State.advanceUntaken (s : State) : State :=
  { s with pc := s.nextPc, slot := none, inhibit := false, afterUntaken := true }

/-- The completion of a taken branch that is not delayed (45_branch.md R300 (4)). -/
def State.branch (s : State) (target : Word) : State :=
  { s with pc := target, slot := none, inhibit := false, afterUntaken := false }

/-- `delayed_branch(t)` (00_scope.md R15, 10_state.md R37). -/
def State.delayedBranch (s : State) (target : Word) : State :=
  { s with pc := s.pc + 2, slot := some target, inhibit := false, afterUntaken := false }

/-! ### Taking an exception -/

/-- A longword stored while an exception is being taken: an address error there is the end of the run
(60_exceptions.md R409; log 13). -/
def State.entryStore (s : State) (a v : Word) (k : State → Result) : Result :=
  match s.memWrite a .long v with
  | .ok s' => k s'
  | .addressError => .fault .addressErrorInEntry
  | .unmapped => .fault .unmappedAccess

/-- A longword loaded while an exception is being taken, as `State.entryStore`. -/
def State.entryLoad (s : State) (a : Word) (k : Word → State → Result) : Result :=
  match s.memRead a .long with
  | .ok (v, s') => k v s'
  | .addressError => .fault .addressErrorInEntry
  | .unmapped => .fault .unmappedAccess

/-- A push on the stack of R15 while an exception is being taken (60_exceptions.md R404). -/
def State.entryPush (s : State) (v : Word) (k : State → Result) : Result :=
  (s.setReg Reg.sp (s.reg Reg.sp - 4)).entryStore (s.reg Reg.sp - 4) v k

/-- The address of entry `v` of the vector table (60_exceptions.md R402). -/
def State.vectorAddress (s : State) (v : BitVec 8) : Word := s.vbr + (v.zeroExtend 32) * 4

/-- SR.I written where an interrupt is accepted, unchanged for every other exception (60_exceptions.md R404, R411). -/
def State.setMask (s : State) : Option (BitVec 4) → State
  | none => s
  | some level => { s with sr := { s.sr with i := level } }

/-- The end of taking an exception: control at the handler (60_exceptions.md R404). -/
def State.enterHandler (s : State) (handler : Word) : State :=
  { s with pc := handler, slot := none, inhibit := false, afterUntaken := false, mode := .programExecution }

/-- Taking an exception (60_exceptions.md R404): SR and then `spc` are pushed, the mask of an accepted interrupt is set,
any pending branch is dropped, and control goes to the handler that entry `v` of the vector table names. -/
def State.enterException (s : State) (v : BitVec 8) (spc : Word) (mask : Option (BitVec 4)) : Result :=
  s.entryPush s.sr.toWord fun s1 =>
  s1.entryPush spc fun s2 =>
  (s2.setMask mask).entryLoad (s2.vectorAddress v) fun handler s3 =>
  .next (s3.enterHandler handler)

/-- CPU address error exception processing (60_exceptions.md R407). The PC it stacks is a free value (R419; log 9). -/
def State.addressError (s : State) : Result :=
  (s.setDraws (s.draws + 1)).enterException s.params.vecAddrErrCPU (Config.addrErrSavedPC s.draws) none

/-- Slot illegal instruction exception processing: the destination `t` of the branch is stacked (60_exceptions.md R406
(b), R419; log 11). -/
def State.slotIllegal (s : State) (t : Word) : Result :=
  s.enterException s.params.vecSlotIllegal t none

/-- General illegal instruction exception processing: the address of the code is stacked (60_exceptions.md R406 (a),
R419; log 11). -/
def State.generalIllegal (s : State) : Result :=
  s.enterException s.params.vecIllegal s.pc none

/-- A code assigned to no instruction of the series (60_exceptions.md R406; directly after an untaken BF/S or BT/S the
model refuses the run, 45_branch.md R315 (c); log 16). -/
def State.illegalCode (s : State) : Result :=
  match s.slot with
  | some t => s.slotIllegal t
  | none => if s.afterUntaken then .refused .disputedAfterUntaken else s.generalIllegal

/-! ### Returning from an exception, and reset -/

/-- A longword or shorter value loaded by an instruction; an address error abandons the instruction with what it had
done before (20_memory.md R65, 60_exceptions.md R407, R418). -/
def State.load (s : State) (a : Word) (sz : Size) (k : Word → State → Result) : Result :=
  match s.memRead a sz with
  | .ok (v, s') => k v s'
  | .addressError => s.addressError
  | .unmapped => .fault .unmappedAccess

/-- A value stored by an instruction, as `State.load`. -/
def State.store (s : State) (a : Word) (sz : Size) (v : Word) (k : State → Result) : Result :=
  match s.memWrite a sz v with
  | .ok s' => k s'
  | .addressError => s.addressError
  | .unmapped => .fault .unmappedAccess

/-- A longword popped off the stack of R15 (46_system_control.md R347). -/
def State.pop (s : State) (k : Word → State → Result) : Result :=
  s.load (s.reg Reg.sp) .long fun v s' => k v (s'.setReg Reg.sp (s'.reg Reg.sp + 4))

/-- The return from an exception (46_system_control.md R347, 60_exceptions.md R416): the PC is popped, then SR, and
control goes to the popped PC after the slot instruction. -/
def State.returnFromException (s : State) : Result :=
  s.pop fun target s1 =>
  s1.pop fun sr s2 =>
  .next ((s2.setSr sr).delayedBranch target)

/-- The registers as a reset taken during a run leaves them: VBR 0, SR.I 1111, no pending branch, and a free value in
every register Table 2.1 calls undefined (10_state.md R40, 70_reset_and_hazards.md R450; log 8). What a reset does to the
SBY bit of SBYCR the manual leaves open (60_exceptions.md R431, R434): it stays as the environment last presented it, the
entry of the reset itself included (DESIGN CHOICE, log 34). -/
def State.resetRegisters (s : State) : State :=
  let free := fun k => Config.undefinedWord (s.draws + k)
  { s with
    r := Vector.ofFn fun k => free k.val
    sr := { m := (free 16).getLsbD 9, q := (free 16).getLsbD 8, i := 0xF, s := (free 16).getLsbD 1,
            t := (free 16).getLsbD 0 }
    gbr := free 17
    vbr := 0
    mach := machForm s.params.series (free 18)
    macl := free 19
    pr := free 20
    slot := none
    inhibit := false
    afterUntaken := false
    draws := s.draws + 21 }

/-- The vector number of a reset's PC (60_exceptions.md R402). -/
def Params.vecResetPC (p : Params) : ResetKind → BitVec 8
  | .powerOn => p.vecPowerOnPC
  | .manual => p.vecManualPC

/-- The vector number of a reset's R15 (60_exceptions.md R402). -/
def Params.vecResetSP (p : Params) : ResetKind → BitVec 8
  | .powerOn => p.vecPowerOnSP
  | .manual => p.vecManualSP

/-- The two fetches of a reset from the vector table, and the start of the program (70_reset_and_hazards.md R450). -/
def State.resetFetch (s : State) (kind : ResetKind) : Result :=
  s.entryLoad (s.vectorAddress (Params.vecResetPC s.params kind)) fun start s1 =>
  s1.entryLoad (s1.vectorAddress (Params.vecResetSP s.params kind)) fun stack s2 =>
  .next ((s2.setReg Reg.sp stack).enterHandler start)

/-- The reset sequence (70_reset_and_hazards.md R450). -/
def State.resetSequence (s : State) (kind : ResetKind) : Result :=
  s.resetRegisters.resetFetch kind

/-! ### Guards -/

/-- The thirteen instructions that rewrite the PC: slot illegal in a delay slot (45_branch.md R301), without meaning
directly after an untaken BF/S or BT/S (R315 (c); log 16). -/
def State.notInSlot (s : State) (k : Result) : Result :=
  match s.slot with
  | some t => s.slotIllegal t
  | none => if s.afterUntaken then .refused .disputedAfterUntaken else k

/-- The nine instructions of the SH7600: on the SH7000 their codes are unassigned (30_encoding.md R120). -/
def State.onSH7600 (s : State) (k : Result) : Result :=
  match s.params.series with
  | .sh7600 => k
  | .sh7000 => s.illegalCode

/-- The completion of an instruction with its effect `s`. -/
def State.done (s : State) : Result := .next s.advance

/-- The completion of an interrupt-disabled instruction with its effect `s`. -/
def State.doneInhibit (s : State) : Result := .next s.advanceInhibit

end Sys2Proof.Machine
end

