-- ==== Sys2Proof/WellFormed.lean ====
section
/-! DEFINITION. What is checked of an instruction before it may run. The field types of `Instr` already bound every
operand to what its encoding admits; what is left is the chip: nine instructions exist on the SH7600 only. -/

namespace Sys2Proof

/-- The series an instruction needs: `some .sh7600` for the nine rows of 00_scope.md R2 (a), `none` where both have it. -/
def Instr.needs : Instr → Option Series
  | .movReg _ _ => none
  | .movBStore _ _ => none
  | .movWStore _ _ => none
  | .movLStore _ _ => none
  | .movBLoad _ _ => none
  | .movWLoad _ _ => none
  | .movLLoad _ _ => none
  | .movBStoreDec _ _ => none
  | .movWStoreDec _ _ => none
  | .movLStoreDec _ _ => none
  | .movBLoadInc _ _ => none
  | .movWLoadInc _ _ => none
  | .movLLoadInc _ _ => none
  | .movBStoreIdx _ _ => none
  | .movWStoreIdx _ _ => none
  | .movLStoreIdx _ _ => none
  | .movBLoadIdx _ _ => none
  | .movWLoadIdx _ _ => none
  | .movLLoadIdx _ _ => none
  | .movImm _ _ => none
  | .movWLoadPc _ _ => none
  | .movLLoadPc _ _ => none
  | .movBLoadGbr _ => none
  | .movWLoadGbr _ => none
  | .movLLoadGbr _ => none
  | .movBStoreGbr _ => none
  | .movWStoreGbr _ => none
  | .movLStoreGbr _ => none
  | .movBStoreDisp _ _ => none
  | .movWStoreDisp _ _ => none
  | .movLStoreDisp _ _ _ => none
  | .movBLoadDisp _ _ => none
  | .movWLoadDisp _ _ => none
  | .movLLoadDisp _ _ _ => none
  | .mova _ => none
  | .movt _ => none
  | .swapB _ _ => none
  | .swapW _ _ => none
  | .xtrct _ _ => none
  | .add _ _ => none
  | .addImm _ _ => none
  | .addc _ _ => none
  | .addv _ _ => none
  | .cmpEqImm _ => none
  | .cmpEq _ _ => none
  | .cmpHs _ _ => none
  | .cmpGe _ _ => none
  | .cmpHi _ _ => none
  | .cmpGt _ _ => none
  | .cmpPl _ => none
  | .cmpPz _ => none
  | .cmpStr _ _ => none
  | .div0s _ _ => none
  | .div0u => none
  | .div1 _ _ => none
  | .dt _ => some .sh7600
  | .extsB _ _ => none
  | .extsW _ _ => none
  | .extuB _ _ => none
  | .extuW _ _ => none
  | .neg _ _ => none
  | .negc _ _ => none
  | .sub _ _ => none
  | .subc _ _ => none
  | .subv _ _ => none
  | .dmulsL _ _ => some .sh7600
  | .dmuluL _ _ => some .sh7600
  | .mulL _ _ => some .sh7600
  | .mulsW _ _ => none
  | .muluW _ _ => none
  | .macL _ _ => some .sh7600
  | .macW _ _ => none
  | .andReg _ _ => none
  | .andImm _ => none
  | .andMem _ => none
  | .notReg _ _ => none
  | .tas _ => none
  | .orReg _ _ => none
  | .orImm _ => none
  | .orMem _ => none
  | .tstReg _ _ => none
  | .tstImm _ => none
  | .tstMem _ => none
  | .xorReg _ _ => none
  | .xorImm _ => none
  | .xorMem _ => none
  | .rotl _ => none
  | .rotr _ => none
  | .rotcl _ => none
  | .rotcr _ => none
  | .shal _ => none
  | .shar _ => none
  | .shll _ => none
  | .shlr _ => none
  | .shll2 _ => none
  | .shll8 _ => none
  | .shll16 _ => none
  | .shlr2 _ => none
  | .shlr8 _ => none
  | .shlr16 _ => none
  | .bf _ => none
  | .bfS _ => some .sh7600
  | .bt _ => none
  | .btS _ => some .sh7600
  | .bra _ => none
  | .braf _ => some .sh7600
  | .bsr _ => none
  | .bsrf _ => some .sh7600
  | .jmp _ => none
  | .jsr _ => none
  | .rts => none
  | .clrt => none
  | .clrmac => none
  | .ldcSr _ => none
  | .ldcLSr _ => none
  | .ldcGbr _ => none
  | .ldcLGbr _ => none
  | .ldcVbr _ => none
  | .ldcLVbr _ => none
  | .ldsMach _ => none
  | .ldsLMach _ => none
  | .ldsMacl _ => none
  | .ldsLMacl _ => none
  | .ldsPr _ => none
  | .ldsLPr _ => none
  | .nop => none
  | .rte => none
  | .sett => none
  | .sleep => none
  | .stcSr _ => none
  | .stcLSr _ => none
  | .stcGbr _ => none
  | .stcLGbr _ => none
  | .stcVbr _ => none
  | .stcLVbr _ => none
  | .stsMach _ => none
  | .stsLMach _ => none
  | .stsMacl _ => none
  | .stsLMacl _ => none
  | .stsPr _ => none
  | .stsLPr _ => none
  | .trapa _ => none

/-- An instruction is well-formed for a series when the series has it (30_encoding.md R120). -/
def Instr.wellFormed (ser : Series) (i : Instr) : Bool :=
  match i.needs with
  | none => true
  | some needed => needed == ser

/-- The thirteen instructions that are illegal in a delay slot (45_branch.md R301). -/
def Instr.rewritesPc : Instr → Bool
  | .movReg _ _ => false
  | .movBStore _ _ => false
  | .movWStore _ _ => false
  | .movLStore _ _ => false
  | .movBLoad _ _ => false
  | .movWLoad _ _ => false
  | .movLLoad _ _ => false
  | .movBStoreDec _ _ => false
  | .movWStoreDec _ _ => false
  | .movLStoreDec _ _ => false
  | .movBLoadInc _ _ => false
  | .movWLoadInc _ _ => false
  | .movLLoadInc _ _ => false
  | .movBStoreIdx _ _ => false
  | .movWStoreIdx _ _ => false
  | .movLStoreIdx _ _ => false
  | .movBLoadIdx _ _ => false
  | .movWLoadIdx _ _ => false
  | .movLLoadIdx _ _ => false
  | .movImm _ _ => false
  | .movWLoadPc _ _ => false
  | .movLLoadPc _ _ => false
  | .movBLoadGbr _ => false
  | .movWLoadGbr _ => false
  | .movLLoadGbr _ => false
  | .movBStoreGbr _ => false
  | .movWStoreGbr _ => false
  | .movLStoreGbr _ => false
  | .movBStoreDisp _ _ => false
  | .movWStoreDisp _ _ => false
  | .movLStoreDisp _ _ _ => false
  | .movBLoadDisp _ _ => false
  | .movWLoadDisp _ _ => false
  | .movLLoadDisp _ _ _ => false
  | .mova _ => false
  | .movt _ => false
  | .swapB _ _ => false
  | .swapW _ _ => false
  | .xtrct _ _ => false
  | .add _ _ => false
  | .addImm _ _ => false
  | .addc _ _ => false
  | .addv _ _ => false
  | .cmpEqImm _ => false
  | .cmpEq _ _ => false
  | .cmpHs _ _ => false
  | .cmpGe _ _ => false
  | .cmpHi _ _ => false
  | .cmpGt _ _ => false
  | .cmpPl _ => false
  | .cmpPz _ => false
  | .cmpStr _ _ => false
  | .div0s _ _ => false
  | .div0u => false
  | .div1 _ _ => false
  | .dt _ => false
  | .extsB _ _ => false
  | .extsW _ _ => false
  | .extuB _ _ => false
  | .extuW _ _ => false
  | .neg _ _ => false
  | .negc _ _ => false
  | .sub _ _ => false
  | .subc _ _ => false
  | .subv _ _ => false
  | .dmulsL _ _ => false
  | .dmuluL _ _ => false
  | .mulL _ _ => false
  | .mulsW _ _ => false
  | .muluW _ _ => false
  | .macL _ _ => false
  | .macW _ _ => false
  | .andReg _ _ => false
  | .andImm _ => false
  | .andMem _ => false
  | .notReg _ _ => false
  | .tas _ => false
  | .orReg _ _ => false
  | .orImm _ => false
  | .orMem _ => false
  | .tstReg _ _ => false
  | .tstImm _ => false
  | .tstMem _ => false
  | .xorReg _ _ => false
  | .xorImm _ => false
  | .xorMem _ => false
  | .rotl _ => false
  | .rotr _ => false
  | .rotcl _ => false
  | .rotcr _ => false
  | .shal _ => false
  | .shar _ => false
  | .shll _ => false
  | .shlr _ => false
  | .shll2 _ => false
  | .shll8 _ => false
  | .shll16 _ => false
  | .shlr2 _ => false
  | .shlr8 _ => false
  | .shlr16 _ => false
  | .bf _ => true
  | .bfS _ => true
  | .bt _ => true
  | .btS _ => true
  | .bra _ => true
  | .braf _ => true
  | .bsr _ => true
  | .bsrf _ => true
  | .jmp _ => true
  | .jsr _ => true
  | .rts => true
  | .clrt => false
  | .clrmac => false
  | .ldcSr _ => false
  | .ldcLSr _ => false
  | .ldcGbr _ => false
  | .ldcLGbr _ => false
  | .ldcVbr _ => false
  | .ldcLVbr _ => false
  | .ldsMach _ => false
  | .ldsLMach _ => false
  | .ldsMacl _ => false
  | .ldsLMacl _ => false
  | .ldsPr _ => false
  | .ldsLPr _ => false
  | .nop => false
  | .rte => true
  | .sett => false
  | .sleep => false
  | .stcSr _ => false
  | .stcLSr _ => false
  | .stcGbr _ => false
  | .stcLGbr _ => false
  | .stcVbr _ => false
  | .stcLVbr _ => false
  | .stsMach _ => false
  | .stsLMach _ => false
  | .stsMacl _ => false
  | .stsLMacl _ => false
  | .stsPr _ => false
  | .stsLPr _ => false
  | .trapa _ => true

/-- The twenty-four interrupt-disabled instructions (46_system_control.md R333). -/
def Instr.interruptDisabled : Instr → Bool
  | .movReg _ _ => false
  | .movBStore _ _ => false
  | .movWStore _ _ => false
  | .movLStore _ _ => false
  | .movBLoad _ _ => false
  | .movWLoad _ _ => false
  | .movLLoad _ _ => false
  | .movBStoreDec _ _ => false
  | .movWStoreDec _ _ => false
  | .movLStoreDec _ _ => false
  | .movBLoadInc _ _ => false
  | .movWLoadInc _ _ => false
  | .movLLoadInc _ _ => false
  | .movBStoreIdx _ _ => false
  | .movWStoreIdx _ _ => false
  | .movLStoreIdx _ _ => false
  | .movBLoadIdx _ _ => false
  | .movWLoadIdx _ _ => false
  | .movLLoadIdx _ _ => false
  | .movImm _ _ => false
  | .movWLoadPc _ _ => false
  | .movLLoadPc _ _ => false
  | .movBLoadGbr _ => false
  | .movWLoadGbr _ => false
  | .movLLoadGbr _ => false
  | .movBStoreGbr _ => false
  | .movWStoreGbr _ => false
  | .movLStoreGbr _ => false
  | .movBStoreDisp _ _ => false
  | .movWStoreDisp _ _ => false
  | .movLStoreDisp _ _ _ => false
  | .movBLoadDisp _ _ => false
  | .movWLoadDisp _ _ => false
  | .movLLoadDisp _ _ _ => false
  | .mova _ => false
  | .movt _ => false
  | .swapB _ _ => false
  | .swapW _ _ => false
  | .xtrct _ _ => false
  | .add _ _ => false
  | .addImm _ _ => false
  | .addc _ _ => false
  | .addv _ _ => false
  | .cmpEqImm _ => false
  | .cmpEq _ _ => false
  | .cmpHs _ _ => false
  | .cmpGe _ _ => false
  | .cmpHi _ _ => false
  | .cmpGt _ _ => false
  | .cmpPl _ => false
  | .cmpPz _ => false
  | .cmpStr _ _ => false
  | .div0s _ _ => false
  | .div0u => false
  | .div1 _ _ => false
  | .dt _ => false
  | .extsB _ _ => false
  | .extsW _ _ => false
  | .extuB _ _ => false
  | .extuW _ _ => false
  | .neg _ _ => false
  | .negc _ _ => false
  | .sub _ _ => false
  | .subc _ _ => false
  | .subv _ _ => false
  | .dmulsL _ _ => false
  | .dmuluL _ _ => false
  | .mulL _ _ => false
  | .mulsW _ _ => false
  | .muluW _ _ => false
  | .macL _ _ => false
  | .macW _ _ => false
  | .andReg _ _ => false
  | .andImm _ => false
  | .andMem _ => false
  | .notReg _ _ => false
  | .tas _ => false
  | .orReg _ _ => false
  | .orImm _ => false
  | .orMem _ => false
  | .tstReg _ _ => false
  | .tstImm _ => false
  | .tstMem _ => false
  | .xorReg _ _ => false
  | .xorImm _ => false
  | .xorMem _ => false
  | .rotl _ => false
  | .rotr _ => false
  | .rotcl _ => false
  | .rotcr _ => false
  | .shal _ => false
  | .shar _ => false
  | .shll _ => false
  | .shlr _ => false
  | .shll2 _ => false
  | .shll8 _ => false
  | .shll16 _ => false
  | .shlr2 _ => false
  | .shlr8 _ => false
  | .shlr16 _ => false
  | .bf _ => false
  | .bfS _ => false
  | .bt _ => false
  | .btS _ => false
  | .bra _ => false
  | .braf _ => false
  | .bsr _ => false
  | .bsrf _ => false
  | .jmp _ => false
  | .jsr _ => false
  | .rts => false
  | .clrt => false
  | .clrmac => false
  | .ldcSr _ => true
  | .ldcLSr _ => true
  | .ldcGbr _ => true
  | .ldcLGbr _ => true
  | .ldcVbr _ => true
  | .ldcLVbr _ => true
  | .ldsMach _ => true
  | .ldsLMach _ => true
  | .ldsMacl _ => true
  | .ldsLMacl _ => true
  | .ldsPr _ => true
  | .ldsLPr _ => true
  | .nop => false
  | .rte => false
  | .sett => false
  | .sleep => false
  | .stcSr _ => true
  | .stcLSr _ => true
  | .stcGbr _ => true
  | .stcLGbr _ => true
  | .stcVbr _ => true
  | .stcLVbr _ => true
  | .stsMach _ => true
  | .stsLMach _ => true
  | .stsMacl _ => true
  | .stsLMacl _ => true
  | .stsPr _ => true
  | .stsLPr _ => true
  | .trapa _ => false

end Sys2Proof
end

