-- ==== Sys2Proof/Machine/Boundary.lean ====
section
/-! DEFINITION. What happens at an instruction boundary before an instruction runs (60_exceptions.md R403, R410-R413,
R430-R437): resets, the bus, the DMA address error, interrupts, the power-down modes; and fetching and decoding the next
instruction. -/

namespace Sys2Proof.Machine

/-! ### Interrupt requests -/

/-- The priority level of a request: NMI is 16 (60_exceptions.md R410; log 10). -/
def Request.level : Request → Nat
  | .nmi => 16
  | .userBreak level => level.toNat
  | .irq _ level => level.toNat

/-- The vector number of a request (60_exceptions.md R402). -/
def Request.vector (p : Params) : Request → BitVec 8
  | .nmi => p.vecNMI
  | .userBreak _ => p.vecUserBreak
  | .irq vector _ => vector

/-- The mask an accepted request installs: its level, 15 for NMI (60_exceptions.md R411; log 10). -/
def Request.newMask (q : Request) : BitVec 4 := BitVec.ofNat 4 (min q.level 15)

/-- The request of the highest level, the first of them where several have it (60_exceptions.md R403; log 22). -/
def highestRequest : List Request → Option Request
  | [] => none
  | q :: rest =>
    match highestRequest rest with
    | none => some q
    | some q' => if q.level < q'.level then some q' else some q

/-- A request passes the mask: its level is above SR.I, or it is NMI (60_exceptions.md R410; log 10). -/
def Request.passes (q : Request) (mask : BitVec 4) : Bool := decide (mask.toNat < q.level)

/-- The interrupt acceptance test is made: no branch is pending and no interrupt-disabled instruction has just run
(10_state.md R38, 60_exceptions.md R412). -/
def State.testMade (s : State) : Bool := s.slot.isNone && !s.inhibit

/-- Accepting an interrupt (60_exceptions.md R410, R411, R419). -/
def State.acceptInterrupt (s : State) (q : Request) : Result :=
  s.enterException (q.vector s.params) s.pc (some q.newMask)

/-- DMA address error exception processing (60_exceptions.md R407, R419). -/
def State.dmaAddressError (s : State) : Result :=
  s.enterException s.params.vecAddrErrDMA s.pc none

/-- The asynchronous event taken at a boundary, if any: the DMA address error first, else the highest request if it passes
(60_exceptions.md R403 (2), R410). -/
def State.asyncEvent (s : State) (e : EnvInput) : Option Result :=
  if s.testMade then
    if e.dmaError then some s.dmaAddressError
    else
      match highestRequest e.requests with
      | some q => if q.passes s.sr.i then some (s.acceptInterrupt q) else none
      | none => none
  else none

/-- The event that ends standby mode, if any: NMI alone (60_exceptions.md R436). -/
def State.standbyEvent (s : State) (e : EnvInput) : Option Result :=
  if s.testMade && e.requests.contains .nmi then some (s.acceptInterrupt .nmi) else none

/-! ### Fetch and decode -/

/-- What fetching and decoding the next instruction gives: an instruction to run, or an outcome of its own. -/
inductive Fetched where
  | instr (i : Instr)
  | done (r : Result)

/-- The next instruction (60_exceptions.md R403 (3), R433): an instruction-fetch address error comes before an illegal
code (20_memory.md R67, 30_encoding.md R121). -/
def State.fetchDecode (s : State) : Fetched :=
  match s.instrFetch s.pc with
  | .addressError => .done s.addressError
  | .unmapped => .done (.fault .unmappedAccess)
  | .ok code =>
    match decodeWord code with
    | some i => .instr i
    | none => .done s.illegalCode

/-- The next instruction stands directly after an untaken BF/S or BT/S and is one of those to which the manual gives two
outcomes (45_branch.md R315 (c); log 16). -/
def State.nextDisputed (s : State) : Bool :=
  s.afterUntaken &&
    match s.instrFetch s.pc with
    | .ok code =>
      match decodeWord code with
      | some i => i.rewritesPc || !i.wellFormed s.params.series
      | none => true
    | _ => false

/-! ### The boundary -/

/-- The bytes another bus master writes (60_exceptions.md R437; log 23). -/
def State.busWrite (s : State) : List (Word × Byte) → State
  | [] => s
  | (a, v) :: rest => (s.setByte a v).busWrite rest

/-- What a boundary decides: the step is over, or an instruction runs. -/
inductive Boundary where
  | done (r : Result)
  | run (s : State)

/-- The environment's entry for this boundary, and the state with it consumed (log 4). -/
def State.takeInput (s : State) : EnvInput × State :=
  match s.inputs with
  | [] => (.quiet, s)
  | e :: rest => (e, { s with inputs := rest, sby := e.sby.getD s.sby })

/-- The bus given to the device that asked for it (60_exceptions.md R437; log 23). -/
def State.releaseBus (s : State) (e : EnvInput) (asleep : Bool) : State :=
  (s.busWrite e.busWrites).setMode (.busRelease asleep)

/-- A step outside program execution (60_exceptions.md R431, R432, R435-R437), or none in it. -/
def State.otherMode (s : State) (e : EnvInput) : Option Result :=
  match s.mode with
  | .programExecution => none
  | .reset kind => some (s.resetFetch kind)
  | .exceptionProcessing => some (.next (s.setMode .programExecution))
  | .sleep =>
    some (if e.busRequest then .next (s.releaseBus e true) else (s.asyncEvent e).getD (.next s))
  | .standby => some ((s.standbyEvent e).getD (.next s))
  | .busRelease asleep =>
    some (.next (if e.busRequest then s.busWrite e.busWrites
      else s.setMode (if asleep then .sleep else .programExecution)))

/-- The boundary of program execution: the bus, then an asynchronous event, else an instruction (60_exceptions.md R403,
R433, R437; log 22). -/
def State.programBoundary (s : State) (e : EnvInput) : Boundary :=
  if e.busRequest then .done (.next (s.releaseBus e false))
  else
    match s.asyncEvent e with
    | some r => .done (if s.nextDisputed then .refused .disputedAfterUntaken else r)
    | none => .run s

/-- A boundary: a reset request wins over everything, from any state (60_exceptions.md R403 (1), R431). -/
def State.boundary (s : State) : Boundary :=
  let e := s.takeInput.1
  let s' := s.takeInput.2
  match e.reset with
  | some kind => .done (s'.resetSequence kind)
  | none =>
    match s'.otherMode e with
    | some r => .done r
    | none => s'.programBoundary e

end Sys2Proof.Machine
end

