-- ==== Sys2Proof/Machine/Operands.lean ====
section
/-! DEFINITION. The operand forms: effective addresses (30_encoding.md R103-R105), immediates (R126), and the register
and memory forms that instructions of one shape share. -/

namespace Sys2Proof.Machine

/-! ### Immediates and displacements -/

/-- An 8-bit immediate, sign-extended (MOV, ADD, CMP/EQ). -/
def immSigned (imm : BitVec 8) : Word := imm.signExtend 32

/-- An 8-bit immediate, zero-extended (AND, OR, TST, XOR). -/
def immUnsigned (imm : BitVec 8) : Word := imm.zeroExtend 32

/-- An 8-bit displacement, zero-extended and scaled by the size of the access. -/
def disp8 (disp : BitVec 8) (sz : Size) : Word := disp.zeroExtend 32 * BitVec.ofNat 32 sz.bytes

/-- A 4-bit displacement, zero-extended and scaled by the size of the access. -/
def disp4 (disp : BitVec 4) (sz : Size) : Word := disp.zeroExtend 32 * BitVec.ofNat 32 sz.bytes

/-! ### Effective addresses -/

/-- `@Rn` (30_encoding.md R103). -/
def State.eaReg (s : State) (n : Reg) : Word := s.reg n

/-- `@-Rn`: the register minus the size of the access. -/
def State.eaPreDec (s : State) (n : Reg) (sz : Size) : Word := s.reg n - BitVec.ofNat 32 sz.bytes

/-- `Rn` after `@Rn+`: the register plus the size of the access. -/
def State.postInc (s : State) (n : Reg) (sz : Size) : Word := s.reg n + BitVec.ofNat 32 sz.bytes

/-- `@(disp,Rn)`. -/
def State.eaDisp (s : State) (n : Reg) (disp : BitVec 4) (sz : Size) : Word := s.reg n + disp4 disp sz

/-- `@(R0,Rn)`. -/
def State.eaIndexed (s : State) (n : Reg) : Word := s.reg n + s.reg Reg.r0

/-- `@(disp,GBR)`. -/
def State.eaGbr (s : State) (disp : BitVec 8) (sz : Size) : Word := s.gbr + disp8 disp sz

/-- `@(R0,GBR)`. -/
def State.eaGbrIndexed (s : State) : Word := s.gbr + s.reg Reg.r0

/-- `@(disp,PC)` of MOV.W: the PC value is not masked (40_data_transfer.md R161). -/
def State.eaPcWord (s : State) (disp : BitVec 8) : Word := s.pcValue + disp8 disp .word

/-- `@(disp,PC)` of MOV.L and MOVA: the low two bits of the PC value are cleared (40_data_transfer.md R162, R175). -/
def State.eaPcLong (s : State) (disp : BitVec 8) : Word := (s.pcValue &&& 0xFFFFFFFC) + disp8 disp .long

/-- The destination of BF, BT, BF/S and BT/S: an 8-bit displacement, sign-extended and doubled (45_branch.md R300). -/
def State.target8 (s : State) (disp : BitVec 8) : Word := s.pcValue + disp.signExtend 32 * 2

/-- The destination of BRA and BSR: a 12-bit displacement, sign-extended and doubled (45_branch.md R300). -/
def State.target12 (s : State) (disp : BitVec 12) : Word := s.pcValue + disp.signExtend 32 * 2

/-- The destination of BRAF and BSRF: a register added to the PC value (45_branch.md R308, R310). -/
def State.targetReg (s : State) (n : Reg) : Word := s.pcValue + s.reg n

/-- The return address a subroutine call stores in PR: `a + 4` (10_state.md R34). -/
def State.returnAddress (s : State) : Word := s.pc + 4

/-! ### Forms that instructions share -/

/-- A load into a register: the value sign-extended (20_memory.md R69, 40_data_transfer.md R140). -/
def State.loadTo (s : State) (ea : Word) (sz : Size) (n : Reg) : Result :=
  s.load ea sz fun v s' => (s'.setReg n (sz.signExtend v)).done

/-- A store of a register: the value truncated (40_data_transfer.md R140). -/
def State.storeFrom (s : State) (m : Reg) (ea : Word) (sz : Size) : Result :=
  s.store ea sz (s.reg m) State.done

/-- `MOV Rm,@-Rn`: the write comes first and uses the undecremented registers, then Rn takes the address
(40_data_transfer.md R148-R150). -/
def State.storePreDec (s : State) (m n : Reg) (sz : Size) : Result :=
  s.store (s.eaPreDec n sz) sz (s.reg m) fun s' => (s'.setReg n (s.eaPreDec n sz)).done

/-- `MOV @Rm+,Rn`: the load comes first; Rm is incremented after it unless it is Rn (40_data_transfer.md R151-R153). -/
def State.loadPostInc (s : State) (m n : Reg) (sz : Size) : Result :=
  s.load (s.reg m) sz fun v s' =>
    if n = m then (s'.setReg n (sz.signExtend v)).done
    else ((s'.setReg n (sz.signExtend v)).setReg m (s.postInc m sz)).done

/-- A read-modify-write of the byte at `@(R0,GBR)` (43_logic.md R265). -/
def State.modifyByte (s : State) (f : Byte → Byte) : Result :=
  s.load s.eaGbrIndexed .byte fun v s' =>
  s'.store s.eaGbrIndexed .byte ((f (v.extractLsb' 0 8)).zeroExtend 32) State.done

/-- `LDC.L` and `LDS.L @Rm+`: the longword is loaded and put in its register, then Rm is incremented
(46_system_control.md R337-R339, R343-R345). -/
def State.loadControl (s : State) (m : Reg) (put : State → Word → State) : Result :=
  s.load (s.reg m) .long fun v s' => ((put s' v).setReg m (s.postInc m .long)).doneInhibit

/-- `STC.L` and `STS.L @-Rn`: Rn is decremented first, then the longword is stored; the decrement stays where the store
is an address error (46_system_control.md R355-R357, R361-R363). -/
def State.storeControl (s : State) (n : Reg) (v : Word) : Result :=
  (s.setReg n (s.eaPreDec n .long)).store (s.eaPreDec n .long) .long v State.doneInhibit

/-- The two operands of MAC.L and MAC.W: the one at Rn first, each register incremented as its operand is read
(42_multiply_mac.md R246). -/
def State.macOperands (s : State) (m n : Reg) (sz : Size) (k : Word → Word → State → Result) : Result :=
  s.load (s.reg n) sz fun x s1 =>
  let s2 := s1.setReg n (s1.postInc n sz)
  s2.load (s2.reg m) sz fun y s3 =>
  k x y (s3.setReg m (s3.postInc m sz))

end Sys2Proof.Machine
end

