-- ==== Sys2Proof/Machine/Arithmetic.lean ====
section
/-! DEFINITION. Arithmetic without the multiplications (41_arithmetic.md). -/

namespace Sys2Proof.Machine

/-- `ADD Rm,Rn` (41_arithmetic.md R201) -/
def execAdd (m : Reg) (n : Reg) (s : State) : Result :=
  (s.setReg n (s.reg n + s.reg m)).done

/-- `ADD #imm,Rn` (41_arithmetic.md R202) -/
def execAddImm (imm : BitVec 8) (n : Reg) (s : State) : Result :=
  (s.setReg n (s.reg n + immSigned imm)).done

/-- `ADDC Rm,Rn` (41_arithmetic.md R203) -/
def execAddc (m : Reg) (n : Reg) (s : State) : Result :=
  let w := addCarry (s.reg n) (s.reg m) s.sr.t
  ((s.setReg n w.value).setT w.t).done

/-- `ADDV Rm,Rn` (41_arithmetic.md R204) -/
def execAddv (m : Reg) (n : Reg) (s : State) : Result :=
  let w := addOverflow (s.reg n) (s.reg m)
  ((s.setReg n w.value).setT w.t).done

/-- `CMP/EQ #imm,R0` (41_arithmetic.md R205) -/
def execCmpEqImm (imm : BitVec 8) (s : State) : Result :=
  (s.setT (s.reg Reg.r0 == immSigned imm)).done

/-- `CMP/EQ Rm,Rn` (41_arithmetic.md R206) -/
def execCmpEq (m : Reg) (n : Reg) (s : State) : Result :=
  (s.setT (s.reg n == s.reg m)).done

/-- `CMP/HS Rm,Rn` (41_arithmetic.md R207): unsigned -/
def execCmpHs (m : Reg) (n : Reg) (s : State) : Result :=
  (s.setT ((s.reg m).ule (s.reg n))).done

/-- `CMP/GE Rm,Rn` (41_arithmetic.md R208): signed -/
def execCmpGe (m : Reg) (n : Reg) (s : State) : Result :=
  (s.setT ((s.reg m).sle (s.reg n))).done

/-- `CMP/HI Rm,Rn` (41_arithmetic.md R209): unsigned -/
def execCmpHi (m : Reg) (n : Reg) (s : State) : Result :=
  (s.setT ((s.reg m).ult (s.reg n))).done

/-- `CMP/GT Rm,Rn` (41_arithmetic.md R210): signed -/
def execCmpGt (m : Reg) (n : Reg) (s : State) : Result :=
  (s.setT ((s.reg m).slt (s.reg n))).done

/-- `CMP/PL Rn` (41_arithmetic.md R211) -/
def execCmpPl (n : Reg) (s : State) : Result :=
  (s.setT (BitVec.slt 0 (s.reg n))).done

/-- `CMP/PZ Rn` (41_arithmetic.md R212) -/
def execCmpPz (n : Reg) (s : State) : Result :=
  (s.setT (BitVec.sle 0 (s.reg n))).done

/-- `CMP/STR Rm,Rn` (41_arithmetic.md R213) -/
def execCmpStr (m : Reg) (n : Reg) (s : State) : Result :=
  (s.setT (someByteEqual (s.reg n) (s.reg m))).done

/-- `DIV0S Rm,Rn` (41_arithmetic.md R215) -/
def execDiv0s (m : Reg) (n : Reg) (s : State) : Result :=
  let q := (s.reg n).msb
  let m' := (s.reg m).msb
  (s.setMQT m' q (m' ^^ q)).done

/-- `DIV0U` (41_arithmetic.md R216) -/
def execDiv0u (s : State) : Result :=
  (s.setMQT false false false).done

/-- `DIV1 Rm,Rn` (41_arithmetic.md R217): Rm is read after Rn is shifted, so that with m = n it is the
shifted value -/
def execDiv1 (m : Reg) (n : Reg) (s : State) : Result :=
  let s1 := s.setReg n ((s.reg n <<< 1) ||| bitWord s.sr.t)
  let w := divStep s.sr.m s.sr.q (s.reg n).msb (s1.reg n) (s1.reg m)
  ((s1.setReg n w.value).setQT w.q w.t).done

/-- `DT Rn` (41_arithmetic.md R219) -/
def execDt (n : Reg) (s : State) : Result :=
  s.onSH7600
    (let v := s.reg n - 1
    ((s.setReg n v).setT (v == 0)).done)

/-- `EXTS.B Rm,Rn` (41_arithmetic.md R220) -/
def execExtsB (m : Reg) (n : Reg) (s : State) : Result :=
  (s.setReg n (((s.reg m).extractLsb' 0 8).signExtend 32)).done

/-- `EXTS.W Rm,Rn` (41_arithmetic.md R221) -/
def execExtsW (m : Reg) (n : Reg) (s : State) : Result :=
  (s.setReg n (((s.reg m).extractLsb' 0 16).signExtend 32)).done

/-- `EXTU.B Rm,Rn` (41_arithmetic.md R222) -/
def execExtuB (m : Reg) (n : Reg) (s : State) : Result :=
  (s.setReg n (((s.reg m).extractLsb' 0 8).zeroExtend 32)).done

/-- `EXTU.W Rm,Rn` (41_arithmetic.md R223) -/
def execExtuW (m : Reg) (n : Reg) (s : State) : Result :=
  (s.setReg n (((s.reg m).extractLsb' 0 16).zeroExtend 32)).done

/-- `NEG Rm,Rn` (41_arithmetic.md R230) -/
def execNeg (m : Reg) (n : Reg) (s : State) : Result :=
  (s.setReg n (0 - s.reg m)).done

/-- `NEGC Rm,Rn` (41_arithmetic.md R231) -/
def execNegc (m : Reg) (n : Reg) (s : State) : Result :=
  let w := subBorrow 0 (s.reg m) s.sr.t
  ((s.setReg n w.value).setT w.t).done

/-- `SUB Rm,Rn` (41_arithmetic.md R233) -/
def execSub (m : Reg) (n : Reg) (s : State) : Result :=
  (s.setReg n (s.reg n - s.reg m)).done

/-- `SUBC Rm,Rn` (41_arithmetic.md R234) -/
def execSubc (m : Reg) (n : Reg) (s : State) : Result :=
  let w := subBorrow (s.reg n) (s.reg m) s.sr.t
  ((s.setReg n w.value).setT w.t).done

/-- `SUBV Rm,Rn` (41_arithmetic.md R235) -/
def execSubv (m : Reg) (n : Reg) (s : State) : Result :=
  let w := subOverflow (s.reg n) (s.reg m)
  ((s.setReg n w.value).setT w.t).done

end Sys2Proof.Machine
end

