-- ==== Sys2Proof/Machine/Branch.lean ====
section
/-! DEFINITION. Branches (45_branch.md). -/

namespace Sys2Proof.Machine

/-- `BF label` (45_branch.md R303) -/
def execBf (disp : BitVec 8) (s : State) : Result :=
  s.notInSlot (.next (if s.sr.t then s.advance else s.branch (s.target8 disp)))

/-- `BF/S label` (45_branch.md R304) -/
def execBfS (disp : BitVec 8) (s : State) : Result :=
  s.onSH7600 (s.notInSlot
    (.next (if s.sr.t then s.advanceUntaken else s.delayedBranch (s.target8 disp))))

/-- `BT label` (45_branch.md R305) -/
def execBt (disp : BitVec 8) (s : State) : Result :=
  s.notInSlot (.next (if s.sr.t then s.branch (s.target8 disp) else s.advance))

/-- `BT/S label` (45_branch.md R306) -/
def execBtS (disp : BitVec 8) (s : State) : Result :=
  s.onSH7600 (s.notInSlot
    (.next (if s.sr.t then s.delayedBranch (s.target8 disp) else s.advanceUntaken)))

/-- `BRA label` (45_branch.md R307) -/
def execBra (disp : BitVec 12) (s : State) : Result :=
  s.notInSlot (.next (s.delayedBranch (s.target12 disp)))

/-- `BRAF Rn` (45_branch.md R308) -/
def execBraf (n : Reg) (s : State) : Result :=
  s.onSH7600 (s.notInSlot (.next (s.delayedBranch (s.targetReg n))))

/-- `BSR label` (45_branch.md R309) -/
def execBsr (disp : BitVec 12) (s : State) : Result :=
  s.notInSlot (.next ((s.setPr s.returnAddress).delayedBranch (s.target12 disp)))

/-- `BSRF Rn` (45_branch.md R310) -/
def execBsrf (n : Reg) (s : State) : Result :=
  s.onSH7600 (s.notInSlot (.next ((s.setPr s.returnAddress).delayedBranch (s.targetReg n))))

/-- `JMP @Rn` (45_branch.md R311) -/
def execJmp (n : Reg) (s : State) : Result :=
  s.notInSlot (.next (s.delayedBranch (s.reg n)))

/-- `JSR @Rn` (45_branch.md R312) -/
def execJsr (n : Reg) (s : State) : Result :=
  s.notInSlot (.next ((s.setPr s.returnAddress).delayedBranch (s.reg n)))

/-- `RTS` (45_branch.md R313) -/
def execRts (s : State) : Result :=
  s.notInSlot (.next (s.delayedBranch s.pr))

end Sys2Proof.Machine
end

