-- ==== Sys2Proof/Machine/DataTransfer.lean ====
section
/-! DEFINITION. Data transfer (40_data_transfer.md). -/

namespace Sys2Proof.Machine

/-- `MOV Rm,Rn` (40_data_transfer.md R141) -/
def execMovReg (m : Reg) (n : Reg) (s : State) : Result :=
  (s.setReg n (s.reg m)).done

/-- `MOV.B Rm,@Rn` (40_data_transfer.md R142) -/
def execMovBStore (m : Reg) (n : Reg) (s : State) : Result :=
  s.storeFrom m (s.eaReg n) .byte

/-- `MOV.W Rm,@Rn` (40_data_transfer.md R143) -/
def execMovWStore (m : Reg) (n : Reg) (s : State) : Result :=
  s.storeFrom m (s.eaReg n) .word

/-- `MOV.L Rm,@Rn` (40_data_transfer.md R144) -/
def execMovLStore (m : Reg) (n : Reg) (s : State) : Result :=
  s.storeFrom m (s.eaReg n) .long

/-- `MOV.B @Rm,Rn` (40_data_transfer.md R145) -/
def execMovBLoad (m : Reg) (n : Reg) (s : State) : Result :=
  s.loadTo (s.eaReg m) .byte n

/-- `MOV.W @Rm,Rn` (40_data_transfer.md R146) -/
def execMovWLoad (m : Reg) (n : Reg) (s : State) : Result :=
  s.loadTo (s.eaReg m) .word n

/-- `MOV.L @Rm,Rn` (40_data_transfer.md R147) -/
def execMovLLoad (m : Reg) (n : Reg) (s : State) : Result :=
  s.loadTo (s.eaReg m) .long n

/-- `MOV.B Rm,@-Rn` (40_data_transfer.md R148) -/
def execMovBStoreDec (m : Reg) (n : Reg) (s : State) : Result :=
  s.storePreDec m n .byte

/-- `MOV.W Rm,@-Rn` (40_data_transfer.md R149) -/
def execMovWStoreDec (m : Reg) (n : Reg) (s : State) : Result :=
  s.storePreDec m n .word

/-- `MOV.L Rm,@-Rn` (40_data_transfer.md R150) -/
def execMovLStoreDec (m : Reg) (n : Reg) (s : State) : Result :=
  s.storePreDec m n .long

/-- `MOV.B @Rm+,Rn` (40_data_transfer.md R151) -/
def execMovBLoadInc (m : Reg) (n : Reg) (s : State) : Result :=
  s.loadPostInc m n .byte

/-- `MOV.W @Rm+,Rn` (40_data_transfer.md R152) -/
def execMovWLoadInc (m : Reg) (n : Reg) (s : State) : Result :=
  s.loadPostInc m n .word

/-- `MOV.L @Rm+,Rn` (40_data_transfer.md R153) -/
def execMovLLoadInc (m : Reg) (n : Reg) (s : State) : Result :=
  s.loadPostInc m n .long

/-- `MOV.B Rm,@(R0,Rn)` (40_data_transfer.md R154) -/
def execMovBStoreIdx (m : Reg) (n : Reg) (s : State) : Result :=
  s.storeFrom m (s.eaIndexed n) .byte

/-- `MOV.W Rm,@(R0,Rn)` (40_data_transfer.md R155) -/
def execMovWStoreIdx (m : Reg) (n : Reg) (s : State) : Result :=
  s.storeFrom m (s.eaIndexed n) .word

/-- `MOV.L Rm,@(R0,Rn)` (40_data_transfer.md R156) -/
def execMovLStoreIdx (m : Reg) (n : Reg) (s : State) : Result :=
  s.storeFrom m (s.eaIndexed n) .long

/-- `MOV.B @(R0,Rm),Rn` (40_data_transfer.md R157) -/
def execMovBLoadIdx (m : Reg) (n : Reg) (s : State) : Result :=
  s.loadTo (s.eaIndexed m) .byte n

/-- `MOV.W @(R0,Rm),Rn` (40_data_transfer.md R158) -/
def execMovWLoadIdx (m : Reg) (n : Reg) (s : State) : Result :=
  s.loadTo (s.eaIndexed m) .word n

/-- `MOV.L @(R0,Rm),Rn` (40_data_transfer.md R159) -/
def execMovLLoadIdx (m : Reg) (n : Reg) (s : State) : Result :=
  s.loadTo (s.eaIndexed m) .long n

/-- `MOV #imm,Rn` (40_data_transfer.md R160) -/
def execMovImm (imm : BitVec 8) (n : Reg) (s : State) : Result :=
  (s.setReg n (immSigned imm)).done

/-- `MOV.W @(disp,PC),Rn` (40_data_transfer.md R161) -/
def execMovWLoadPc (disp : BitVec 8) (n : Reg) (s : State) : Result :=
  s.loadTo (s.eaPcWord disp) .word n

/-- `MOV.L @(disp,PC),Rn` (40_data_transfer.md R162) -/
def execMovLLoadPc (disp : BitVec 8) (n : Reg) (s : State) : Result :=
  s.loadTo (s.eaPcLong disp) .long n

/-- `MOV.B @(disp,GBR),R0` (40_data_transfer.md R163) -/
def execMovBLoadGbr (disp : BitVec 8) (s : State) : Result :=
  s.loadTo (s.eaGbr disp .byte) .byte Reg.r0

/-- `MOV.W @(disp,GBR),R0` (40_data_transfer.md R164) -/
def execMovWLoadGbr (disp : BitVec 8) (s : State) : Result :=
  s.loadTo (s.eaGbr disp .word) .word Reg.r0

/-- `MOV.L @(disp,GBR),R0` (40_data_transfer.md R165) -/
def execMovLLoadGbr (disp : BitVec 8) (s : State) : Result :=
  s.loadTo (s.eaGbr disp .long) .long Reg.r0

/-- `MOV.B R0,@(disp,GBR)` (40_data_transfer.md R166) -/
def execMovBStoreGbr (disp : BitVec 8) (s : State) : Result :=
  s.storeFrom Reg.r0 (s.eaGbr disp .byte) .byte

/-- `MOV.W R0,@(disp,GBR)` (40_data_transfer.md R167) -/
def execMovWStoreGbr (disp : BitVec 8) (s : State) : Result :=
  s.storeFrom Reg.r0 (s.eaGbr disp .word) .word

/-- `MOV.L R0,@(disp,GBR)` (40_data_transfer.md R168) -/
def execMovLStoreGbr (disp : BitVec 8) (s : State) : Result :=
  s.storeFrom Reg.r0 (s.eaGbr disp .long) .long

/-- `MOV.B R0,@(disp,Rn)` (40_data_transfer.md R169) -/
def execMovBStoreDisp (disp : BitVec 4) (n : Reg) (s : State) : Result :=
  s.storeFrom Reg.r0 (s.eaDisp n disp .byte) .byte

/-- `MOV.W R0,@(disp,Rn)` (40_data_transfer.md R170) -/
def execMovWStoreDisp (disp : BitVec 4) (n : Reg) (s : State) : Result :=
  s.storeFrom Reg.r0 (s.eaDisp n disp .word) .word

/-- `MOV.L Rm,@(disp,Rn)` (40_data_transfer.md R171) -/
def execMovLStoreDisp (m : Reg) (disp : BitVec 4) (n : Reg) (s : State) : Result :=
  s.storeFrom m (s.eaDisp n disp .long) .long

/-- `MOV.B @(disp,Rm),R0` (40_data_transfer.md R172) -/
def execMovBLoadDisp (disp : BitVec 4) (m : Reg) (s : State) : Result :=
  s.loadTo (s.eaDisp m disp .byte) .byte Reg.r0

/-- `MOV.W @(disp,Rm),R0` (40_data_transfer.md R173) -/
def execMovWLoadDisp (disp : BitVec 4) (m : Reg) (s : State) : Result :=
  s.loadTo (s.eaDisp m disp .word) .word Reg.r0

/-- `MOV.L @(disp,Rm),Rn` (40_data_transfer.md R174) -/
def execMovLLoadDisp (disp : BitVec 4) (m : Reg) (n : Reg) (s : State) : Result :=
  s.loadTo (s.eaDisp m disp .long) .long n

/-- `MOVA @(disp,PC),R0` (40_data_transfer.md R175): no memory is accessed -/
def execMova (disp : BitVec 8) (s : State) : Result :=
  (s.setReg Reg.r0 (s.eaPcLong disp)).done

/-- `MOVT Rn` (40_data_transfer.md R176) -/
def execMovt (n : Reg) (s : State) : Result :=
  (s.setReg n (bitWord s.sr.t)).done

/-- `SWAP.B Rm,Rn` (40_data_transfer.md R177) -/
def execSwapB (m : Reg) (n : Reg) (s : State) : Result :=
  let v := s.reg m
  (s.setReg n (v.extractLsb' 16 16 ++ (v.extractLsb' 0 8 ++ v.extractLsb' 8 8))).done

/-- `SWAP.W Rm,Rn` (40_data_transfer.md R178) -/
def execSwapW (m : Reg) (n : Reg) (s : State) : Result :=
  let v := s.reg m
  (s.setReg n (v.extractLsb' 0 16 ++ v.extractLsb' 16 16)).done

/-- `XTRCT Rm,Rn` (40_data_transfer.md R179): bits 47-16 of Rm:Rn -/
def execXtrct (m : Reg) (n : Reg) (s : State) : Result :=
  (s.setReg n ((s.reg m).extractLsb' 0 16 ++ (s.reg n).extractLsb' 16 16)).done

end Sys2Proof.Machine
end

