-- ==== Sys2Proof/Machine/Logic.lean ====
section
/-! DEFINITION. Logic operations (43_logic.md). -/

namespace Sys2Proof.Machine

/-- `AND Rm,Rn` (43_logic.md R261) -/
def execAndReg (m : Reg) (n : Reg) (s : State) : Result :=
  (s.setReg n (s.reg n &&& s.reg m)).done

/-- `AND #imm,R0` (43_logic.md R262) -/
def execAndImm (imm : BitVec 8) (s : State) : Result :=
  (s.setReg Reg.r0 (s.reg Reg.r0 &&& immUnsigned imm)).done

/-- `AND.B #imm,@(R0,GBR)` (43_logic.md R263) -/
def execAndMem (imm : BitVec 8) (s : State) : Result :=
  s.modifyByte fun b => b &&& imm

/-- `NOT Rm,Rn` (43_logic.md R264) -/
def execNotReg (m : Reg) (n : Reg) (s : State) : Result :=
  (s.setReg n (~~~ s.reg m)).done

/-- `TAS.B @Rn` (43_logic.md R266): the read and the write are one indivisible operation (log 23) -/
def execTas (n : Reg) (s : State) : Result :=
  s.load (s.eaReg n) .byte fun v s' =>
  ((s'.setT (v.extractLsb' 0 8 == 0)).store (s.eaReg n) .byte (v ||| 0x80) State.done)

/-- `OR Rm,Rn` (43_logic.md R267) -/
def execOrReg (m : Reg) (n : Reg) (s : State) : Result :=
  (s.setReg n (s.reg n ||| s.reg m)).done

/-- `OR #imm,R0` (43_logic.md R268) -/
def execOrImm (imm : BitVec 8) (s : State) : Result :=
  (s.setReg Reg.r0 (s.reg Reg.r0 ||| immUnsigned imm)).done

/-- `OR.B #imm,@(R0,GBR)` (43_logic.md R269) -/
def execOrMem (imm : BitVec 8) (s : State) : Result :=
  s.modifyByte fun b => b ||| imm

/-- `TST Rm,Rn` (43_logic.md R270) -/
def execTstReg (m : Reg) (n : Reg) (s : State) : Result :=
  (s.setT (s.reg n &&& s.reg m == 0)).done

/-- `TST #imm,R0` (43_logic.md R271) -/
def execTstImm (imm : BitVec 8) (s : State) : Result :=
  (s.setT (s.reg Reg.r0 &&& immUnsigned imm == 0)).done

/-- `TST.B #imm,@(R0,GBR)` (43_logic.md R272): no write -/
def execTstMem (imm : BitVec 8) (s : State) : Result :=
  s.load s.eaGbrIndexed .byte fun v s' => (s'.setT (v.extractLsb' 0 8 &&& imm == 0)).done

/-- `XOR Rm,Rn` (43_logic.md R274) -/
def execXorReg (m : Reg) (n : Reg) (s : State) : Result :=
  (s.setReg n (s.reg n ^^^ s.reg m)).done

/-- `XOR #imm,R0` (43_logic.md R275) -/
def execXorImm (imm : BitVec 8) (s : State) : Result :=
  (s.setReg Reg.r0 (s.reg Reg.r0 ^^^ immUnsigned imm)).done

/-- `XOR.B #imm,@(R0,GBR)` (43_logic.md R276) -/
def execXorMem (imm : BitVec 8) (s : State) : Result :=
  s.modifyByte fun b => b ^^^ imm

end Sys2Proof.Machine
end

