-- ==== Sys2Proof/Machine/Multiply.lean ====
section
/-! DEFINITION. Multiply and multiply-accumulate (42_multiply_mac.md). -/

namespace Sys2Proof.Machine

/-- The accumulator after MAC.L (42_multiply_mac.md R247): with S the low 48 bits as a signed number, the sum limited to 48 bits
(90_conflicts.md C3, 92_eei_decisions.md D13; log 18). -/
def macLongSum (sat : Bool) (acc : BitVec 64) (x y : Word) : BitVec 64 :=
  let p := x.toInt * y.toInt
  if sat then BitVec.ofInt 64 (clamp (-2 ^ 47) (2 ^ 47 - 1) ((acc.extractLsb' 0 48).toInt + p))
  else BitVec.ofInt 64 (acc.toInt + p)

/-- The state after the accumulation of MAC.W (42_multiply_mac.md R248, R249): with S a 32-bit sum in MACL, limited, and bit 0
of MACH set where it was limited (90_conflicts.md C4, 92_eei_decisions.md D14; log 19); without S a 64-bit sum on the
SH7600, a 42-bit sum on the SH7000. -/
def State.macWordSum (s : State) (x y : BitVec 16) : State :=
  let p := x.toInt * y.toInt
  if s.sr.s then
    let r := s.macl.toInt + p
    let s' := s.setMacl (BitVec.ofInt 32 (clamp (-2 ^ 31) (2 ^ 31 - 1) r))
    if r < -2 ^ 31 ∨ 2 ^ 31 - 1 < r then s'.setMach (s.machValue ||| 1) else s'
  else
    match s.params.series with
    | .sh7600 => s.setMac (BitVec.ofInt 64 (s.mac.toInt + p))
    | .sh7000 =>
      let r : BitVec 42 := BitVec.ofInt 42 ((s.mac.extractLsb' 0 42).toInt + p)
      (s.setMach ((r.extractLsb' 32 10).signExtend 32)).setMacl (r.extractLsb' 0 32)

/-- `DMULS.L Rm,Rn` (42_multiply_mac.md R241): signed -/
def execDmulsL (m : Reg) (n : Reg) (s : State) : Result :=
  s.onSH7600 (s.setMac (BitVec.ofInt 64 ((s.reg n).toInt * (s.reg m).toInt))).done

/-- `DMULU.L Rm,Rn` (42_multiply_mac.md R242): unsigned -/
def execDmuluL (m : Reg) (n : Reg) (s : State) : Result :=
  s.onSH7600 (s.setMac (BitVec.ofNat 64 ((s.reg n).toNat * (s.reg m).toNat))).done

/-- `MUL.L Rm,Rn` (42_multiply_mac.md R243): MACH unchanged -/
def execMulL (m : Reg) (n : Reg) (s : State) : Result :=
  s.onSH7600 (s.setMacl (s.reg n * s.reg m)).done

/-- `MULS.W Rm,Rn` (42_multiply_mac.md R244): signed, MACH unchanged -/
def execMulsW (m : Reg) (n : Reg) (s : State) : Result :=
  (s.setMacl (BitVec.ofInt 32 (((s.reg n).extractLsb' 0 16).toInt * ((s.reg m).extractLsb' 0 16).toInt))).done

/-- `MULU.W Rm,Rn` (42_multiply_mac.md R245): unsigned, MACH unchanged -/
def execMuluW (m : Reg) (n : Reg) (s : State) : Result :=
  (s.setMacl (BitVec.ofNat 32 (((s.reg n).extractLsb' 0 16).toNat * ((s.reg m).extractLsb' 0 16).toNat))).done

/-- `MAC.L @Rm+,@Rn+` (42_multiply_mac.md R247) -/
def execMacL (m : Reg) (n : Reg) (s : State) : Result :=
  s.onSH7600 (s.macOperands m n .long fun x y s' =>
    (s'.setMac (macLongSum s'.sr.s s'.mac x y)).done)

/-- `MAC.W @Rm+,@Rn+` (42_multiply_mac.md R248) -/
def execMacW (m : Reg) (n : Reg) (s : State) : Result :=
  s.macOperands m n .word fun x y s' =>
  (s'.macWordSum (x.extractLsb' 0 16) (y.extractLsb' 0 16)).done

end Sys2Proof.Machine
end

