-- ==== Sys2Proof/Machine/Shift.lean ====
section
/-! DEFINITION. Shifts and rotates (44_shift.md). -/

namespace Sys2Proof.Machine

/-- `ROTL Rn` (44_shift.md R281) -/
def execRotl (n : Reg) (s : State) : Result :=
  let v := s.reg n
  ((s.setReg n ((v <<< 1) ||| bitWord v.msb)).setT (v.msb)).done

/-- `ROTR Rn` (44_shift.md R282) -/
def execRotr (n : Reg) (s : State) : Result :=
  let v := s.reg n
  ((s.setReg n ((v >>> 1) ||| (bitWord (v.getLsbD 0) <<< 31))).setT (v.getLsbD 0)).done

/-- `ROTCL Rn` (44_shift.md R283) -/
def execRotcl (n : Reg) (s : State) : Result :=
  let v := s.reg n
  ((s.setReg n ((v <<< 1) ||| bitWord s.sr.t)).setT (v.msb)).done

/-- `ROTCR Rn` (44_shift.md R284) -/
def execRotcr (n : Reg) (s : State) : Result :=
  let v := s.reg n
  ((s.setReg n ((v >>> 1) ||| (bitWord s.sr.t <<< 31))).setT (v.getLsbD 0)).done

/-- `SHAL Rn` (44_shift.md R285) -/
def execShal (n : Reg) (s : State) : Result :=
  let v := s.reg n
  ((s.setReg n (v <<< 1)).setT (v.msb)).done

/-- `SHAR Rn` (44_shift.md R286) -/
def execShar (n : Reg) (s : State) : Result :=
  let v := s.reg n
  ((s.setReg n ((v >>> 1) ||| (v &&& 0x80000000))).setT (v.getLsbD 0)).done

/-- `SHLL Rn` (44_shift.md R287) -/
def execShll (n : Reg) (s : State) : Result :=
  let v := s.reg n
  ((s.setReg n (v <<< 1)).setT (v.msb)).done

/-- `SHLR Rn` (44_shift.md R288) -/
def execShlr (n : Reg) (s : State) : Result :=
  let v := s.reg n
  ((s.setReg n (v >>> 1)).setT (v.getLsbD 0)).done

/-- `SHLL2 Rn` (44_shift.md R289) -/
def execShll2 (n : Reg) (s : State) : Result :=
  (s.setReg n (s.reg n <<< 2)).done

/-- `SHLL8 Rn` (44_shift.md R290) -/
def execShll8 (n : Reg) (s : State) : Result :=
  (s.setReg n (s.reg n <<< 8)).done

/-- `SHLL16 Rn` (44_shift.md R291) -/
def execShll16 (n : Reg) (s : State) : Result :=
  (s.setReg n (s.reg n <<< 16)).done

/-- `SHLR2 Rn` (44_shift.md R292) -/
def execShlr2 (n : Reg) (s : State) : Result :=
  (s.setReg n (s.reg n >>> 2)).done

/-- `SHLR8 Rn` (44_shift.md R293) -/
def execShlr8 (n : Reg) (s : State) : Result :=
  (s.setReg n (s.reg n >>> 8)).done

/-- `SHLR16 Rn` (44_shift.md R294) -/
def execShlr16 (n : Reg) (s : State) : Result :=
  (s.setReg n (s.reg n >>> 16)).done

end Sys2Proof.Machine
end

