-- ==== Sys2Proof/Machine/SystemControl.lean ====
section
/-! DEFINITION. System control (46_system_control.md). -/

namespace Sys2Proof.Machine

/-- `CLRT` (46_system_control.md R331) -/
def execClrt (s : State) : Result :=
  (s.setT false).done

/-- `CLRMAC` (46_system_control.md R332) -/
def execClrmac (s : State) : Result :=
  ((s.setMach 0).setMacl 0).done

/-- `LDC Rm,SR` (46_system_control.md R334) -/
def execLdcSr (m : Reg) (s : State) : Result :=
  (s.setSr (s.reg m)).doneInhibit

/-- `LDC.L @Rm+,SR` (46_system_control.md R337) -/
def execLdcLSr (m : Reg) (s : State) : Result :=
  s.loadControl m State.setSr

/-- `LDC Rm,GBR` (46_system_control.md R335) -/
def execLdcGbr (m : Reg) (s : State) : Result :=
  (s.setGbr (s.reg m)).doneInhibit

/-- `LDC.L @Rm+,GBR` (46_system_control.md R338) -/
def execLdcLGbr (m : Reg) (s : State) : Result :=
  s.loadControl m State.setGbr

/-- `LDC Rm,VBR` (46_system_control.md R336) -/
def execLdcVbr (m : Reg) (s : State) : Result :=
  (s.setVbr (s.reg m)).doneInhibit

/-- `LDC.L @Rm+,VBR` (46_system_control.md R339) -/
def execLdcLVbr (m : Reg) (s : State) : Result :=
  s.loadControl m State.setVbr

/-- `LDS Rm,MACH` (46_system_control.md R340) -/
def execLdsMach (m : Reg) (s : State) : Result :=
  (s.setMach (s.reg m)).doneInhibit

/-- `LDS.L @Rm+,MACH` (46_system_control.md R343) -/
def execLdsLMach (m : Reg) (s : State) : Result :=
  s.loadControl m State.setMach

/-- `LDS Rm,MACL` (46_system_control.md R341) -/
def execLdsMacl (m : Reg) (s : State) : Result :=
  (s.setMacl (s.reg m)).doneInhibit

/-- `LDS.L @Rm+,MACL` (46_system_control.md R344) -/
def execLdsLMacl (m : Reg) (s : State) : Result :=
  s.loadControl m State.setMacl

/-- `LDS Rm,PR` (46_system_control.md R342) -/
def execLdsPr (m : Reg) (s : State) : Result :=
  (s.setPr (s.reg m)).doneInhibit

/-- `LDS.L @Rm+,PR` (46_system_control.md R345) -/
def execLdsLPr (m : Reg) (s : State) : Result :=
  s.loadControl m State.setPr

/-- `NOP` (46_system_control.md R346) -/
def execNop (s : State) : Result :=
  s.done

/-- `RTE` (46_system_control.md R347) -/
def execRte (s : State) : Result :=
  s.notInSlot s.returnFromException

/-- `SETT` (46_system_control.md R348) -/
def execSett (s : State) : Result :=
  (s.setT true).done

/-- `SLEEP` (46_system_control.md R349): the mode is the one the SBY bit selects (60_exceptions.md R434;
log 17) -/
def execSleep (s : State) : Result :=
  .next (s.advance.setMode (if s.standbyBit then .standby else .sleep))

/-- `STC SR,Rn` (46_system_control.md R352) -/
def execStcSr (n : Reg) (s : State) : Result :=
  (s.setReg n s.sr.toWord).doneInhibit

/-- `STC.L SR,@-Rn` (46_system_control.md R355) -/
def execStcLSr (n : Reg) (s : State) : Result :=
  s.storeControl n s.sr.toWord

/-- `STC GBR,Rn` (46_system_control.md R353) -/
def execStcGbr (n : Reg) (s : State) : Result :=
  (s.setReg n s.gbr).doneInhibit

/-- `STC.L GBR,@-Rn` (46_system_control.md R356) -/
def execStcLGbr (n : Reg) (s : State) : Result :=
  s.storeControl n s.gbr

/-- `STC VBR,Rn` (46_system_control.md R354) -/
def execStcVbr (n : Reg) (s : State) : Result :=
  (s.setReg n s.vbr).doneInhibit

/-- `STC.L VBR,@-Rn` (46_system_control.md R357) -/
def execStcLVbr (n : Reg) (s : State) : Result :=
  s.storeControl n s.vbr

/-- `STS MACH,Rn` (46_system_control.md R358) -/
def execStsMach (n : Reg) (s : State) : Result :=
  (s.setReg n s.machValue).doneInhibit

/-- `STS.L MACH,@-Rn` (46_system_control.md R361) -/
def execStsLMach (n : Reg) (s : State) : Result :=
  s.storeControl n s.machValue

/-- `STS MACL,Rn` (46_system_control.md R359) -/
def execStsMacl (n : Reg) (s : State) : Result :=
  (s.setReg n s.macl).doneInhibit

/-- `STS.L MACL,@-Rn` (46_system_control.md R362) -/
def execStsLMacl (n : Reg) (s : State) : Result :=
  s.storeControl n s.macl

/-- `STS PR,Rn` (46_system_control.md R360) -/
def execStsPr (n : Reg) (s : State) : Result :=
  (s.setReg n s.pr).doneInhibit

/-- `STS.L PR,@-Rn` (46_system_control.md R363) -/
def execStsLPr (n : Reg) (s : State) : Result :=
  s.storeControl n s.pr

/-- `TRAPA #imm` (46_system_control.md R365): SR unchanged, the next address stacked -/
def execTrapa (imm : BitVec 8) (s : State) : Result :=
  s.notInSlot (s.enterException imm (s.pc + 2) none)

end Sys2Proof.Machine
end

