-- ==== Sys2Proof/Machine/Dispatch.lean ====
section
/-! DEFINITION. The meaning of every instruction: one arm each. -/

namespace Sys2Proof.Machine

/-- The meaning of an instruction at a state whose `pc` is the instruction's address. -/
def exec (i : Instr) (s : State) : Host.Outcome State Fault Refusal :=
  match i with
  -- Data transfer (40_data_transfer.md)
  | .movReg m n => Sys2Proof.Machine.execMovReg m n s
  | .movBStore m n => Sys2Proof.Machine.execMovBStore m n s
  | .movWStore m n => Sys2Proof.Machine.execMovWStore m n s
  | .movLStore m n => Sys2Proof.Machine.execMovLStore m n s
  | .movBLoad m n => Sys2Proof.Machine.execMovBLoad m n s
  | .movWLoad m n => Sys2Proof.Machine.execMovWLoad m n s
  | .movLLoad m n => Sys2Proof.Machine.execMovLLoad m n s
  | .movBStoreDec m n => Sys2Proof.Machine.execMovBStoreDec m n s
  | .movWStoreDec m n => Sys2Proof.Machine.execMovWStoreDec m n s
  | .movLStoreDec m n => Sys2Proof.Machine.execMovLStoreDec m n s
  | .movBLoadInc m n => Sys2Proof.Machine.execMovBLoadInc m n s
  | .movWLoadInc m n => Sys2Proof.Machine.execMovWLoadInc m n s
  | .movLLoadInc m n => Sys2Proof.Machine.execMovLLoadInc m n s
  | .movBStoreIdx m n => Sys2Proof.Machine.execMovBStoreIdx m n s
  | .movWStoreIdx m n => Sys2Proof.Machine.execMovWStoreIdx m n s
  | .movLStoreIdx m n => Sys2Proof.Machine.execMovLStoreIdx m n s
  | .movBLoadIdx m n => Sys2Proof.Machine.execMovBLoadIdx m n s
  | .movWLoadIdx m n => Sys2Proof.Machine.execMovWLoadIdx m n s
  | .movLLoadIdx m n => Sys2Proof.Machine.execMovLLoadIdx m n s
  | .movImm imm n => Sys2Proof.Machine.execMovImm imm n s
  | .movWLoadPc disp n => Sys2Proof.Machine.execMovWLoadPc disp n s
  | .movLLoadPc disp n => Sys2Proof.Machine.execMovLLoadPc disp n s
  | .movBLoadGbr disp => Sys2Proof.Machine.execMovBLoadGbr disp s
  | .movWLoadGbr disp => Sys2Proof.Machine.execMovWLoadGbr disp s
  | .movLLoadGbr disp => Sys2Proof.Machine.execMovLLoadGbr disp s
  | .movBStoreGbr disp => Sys2Proof.Machine.execMovBStoreGbr disp s
  | .movWStoreGbr disp => Sys2Proof.Machine.execMovWStoreGbr disp s
  | .movLStoreGbr disp => Sys2Proof.Machine.execMovLStoreGbr disp s
  | .movBStoreDisp disp n => Sys2Proof.Machine.execMovBStoreDisp disp n s
  | .movWStoreDisp disp n => Sys2Proof.Machine.execMovWStoreDisp disp n s
  | .movLStoreDisp m disp n => Sys2Proof.Machine.execMovLStoreDisp m disp n s
  | .movBLoadDisp disp m => Sys2Proof.Machine.execMovBLoadDisp disp m s
  | .movWLoadDisp disp m => Sys2Proof.Machine.execMovWLoadDisp disp m s
  | .movLLoadDisp disp m n => Sys2Proof.Machine.execMovLLoadDisp disp m n s
  | .mova disp => Sys2Proof.Machine.execMova disp s
  | .movt n => Sys2Proof.Machine.execMovt n s
  | .swapB m n => Sys2Proof.Machine.execSwapB m n s
  | .swapW m n => Sys2Proof.Machine.execSwapW m n s
  | .xtrct m n => Sys2Proof.Machine.execXtrct m n s
  -- Arithmetic (41_arithmetic.md)
  | .add m n => Sys2Proof.Machine.execAdd m n s
  | .addImm imm n => Sys2Proof.Machine.execAddImm imm n s
  | .addc m n => Sys2Proof.Machine.execAddc m n s
  | .addv m n => Sys2Proof.Machine.execAddv m n s
  | .cmpEqImm imm => Sys2Proof.Machine.execCmpEqImm imm s
  | .cmpEq m n => Sys2Proof.Machine.execCmpEq m n s
  | .cmpHs m n => Sys2Proof.Machine.execCmpHs m n s
  | .cmpGe m n => Sys2Proof.Machine.execCmpGe m n s
  | .cmpHi m n => Sys2Proof.Machine.execCmpHi m n s
  | .cmpGt m n => Sys2Proof.Machine.execCmpGt m n s
  | .cmpPl n => Sys2Proof.Machine.execCmpPl n s
  | .cmpPz n => Sys2Proof.Machine.execCmpPz n s
  | .cmpStr m n => Sys2Proof.Machine.execCmpStr m n s
  | .div0s m n => Sys2Proof.Machine.execDiv0s m n s
  | .div0u => Sys2Proof.Machine.execDiv0u s
  | .div1 m n => Sys2Proof.Machine.execDiv1 m n s
  | .dt n => Sys2Proof.Machine.execDt n s
  | .extsB m n => Sys2Proof.Machine.execExtsB m n s
  | .extsW m n => Sys2Proof.Machine.execExtsW m n s
  | .extuB m n => Sys2Proof.Machine.execExtuB m n s
  | .extuW m n => Sys2Proof.Machine.execExtuW m n s
  | .neg m n => Sys2Proof.Machine.execNeg m n s
  | .negc m n => Sys2Proof.Machine.execNegc m n s
  | .sub m n => Sys2Proof.Machine.execSub m n s
  | .subc m n => Sys2Proof.Machine.execSubc m n s
  | .subv m n => Sys2Proof.Machine.execSubv m n s
  -- Multiply and accumulate (42_multiply_mac.md)
  | .dmulsL m n => Sys2Proof.Machine.execDmulsL m n s
  | .dmuluL m n => Sys2Proof.Machine.execDmuluL m n s
  | .mulL m n => Sys2Proof.Machine.execMulL m n s
  | .mulsW m n => Sys2Proof.Machine.execMulsW m n s
  | .muluW m n => Sys2Proof.Machine.execMuluW m n s
  | .macL m n => Sys2Proof.Machine.execMacL m n s
  | .macW m n => Sys2Proof.Machine.execMacW m n s
  -- Logic (43_logic.md)
  | .andReg m n => Sys2Proof.Machine.execAndReg m n s
  | .andImm imm => Sys2Proof.Machine.execAndImm imm s
  | .andMem imm => Sys2Proof.Machine.execAndMem imm s
  | .notReg m n => Sys2Proof.Machine.execNotReg m n s
  | .tas n => Sys2Proof.Machine.execTas n s
  | .orReg m n => Sys2Proof.Machine.execOrReg m n s
  | .orImm imm => Sys2Proof.Machine.execOrImm imm s
  | .orMem imm => Sys2Proof.Machine.execOrMem imm s
  | .tstReg m n => Sys2Proof.Machine.execTstReg m n s
  | .tstImm imm => Sys2Proof.Machine.execTstImm imm s
  | .tstMem imm => Sys2Proof.Machine.execTstMem imm s
  | .xorReg m n => Sys2Proof.Machine.execXorReg m n s
  | .xorImm imm => Sys2Proof.Machine.execXorImm imm s
  | .xorMem imm => Sys2Proof.Machine.execXorMem imm s
  -- Shift (44_shift.md)
  | .rotl n => Sys2Proof.Machine.execRotl n s
  | .rotr n => Sys2Proof.Machine.execRotr n s
  | .rotcl n => Sys2Proof.Machine.execRotcl n s
  | .rotcr n => Sys2Proof.Machine.execRotcr n s
  | .shal n => Sys2Proof.Machine.execShal n s
  | .shar n => Sys2Proof.Machine.execShar n s
  | .shll n => Sys2Proof.Machine.execShll n s
  | .shlr n => Sys2Proof.Machine.execShlr n s
  | .shll2 n => Sys2Proof.Machine.execShll2 n s
  | .shll8 n => Sys2Proof.Machine.execShll8 n s
  | .shll16 n => Sys2Proof.Machine.execShll16 n s
  | .shlr2 n => Sys2Proof.Machine.execShlr2 n s
  | .shlr8 n => Sys2Proof.Machine.execShlr8 n s
  | .shlr16 n => Sys2Proof.Machine.execShlr16 n s
  -- Branch (45_branch.md)
  | .bf disp => Sys2Proof.Machine.execBf disp s
  | .bfS disp => Sys2Proof.Machine.execBfS disp s
  | .bt disp => Sys2Proof.Machine.execBt disp s
  | .btS disp => Sys2Proof.Machine.execBtS disp s
  | .bra disp => Sys2Proof.Machine.execBra disp s
  | .braf n => Sys2Proof.Machine.execBraf n s
  | .bsr disp => Sys2Proof.Machine.execBsr disp s
  | .bsrf n => Sys2Proof.Machine.execBsrf n s
  | .jmp n => Sys2Proof.Machine.execJmp n s
  | .jsr n => Sys2Proof.Machine.execJsr n s
  | .rts => Sys2Proof.Machine.execRts s
  -- System control (46_system_control.md)
  | .clrt => Sys2Proof.Machine.execClrt s
  | .clrmac => Sys2Proof.Machine.execClrmac s
  | .ldcSr m => Sys2Proof.Machine.execLdcSr m s
  | .ldcLSr m => Sys2Proof.Machine.execLdcLSr m s
  | .ldcGbr m => Sys2Proof.Machine.execLdcGbr m s
  | .ldcLGbr m => Sys2Proof.Machine.execLdcLGbr m s
  | .ldcVbr m => Sys2Proof.Machine.execLdcVbr m s
  | .ldcLVbr m => Sys2Proof.Machine.execLdcLVbr m s
  | .ldsMach m => Sys2Proof.Machine.execLdsMach m s
  | .ldsLMach m => Sys2Proof.Machine.execLdsLMach m s
  | .ldsMacl m => Sys2Proof.Machine.execLdsMacl m s
  | .ldsLMacl m => Sys2Proof.Machine.execLdsLMacl m s
  | .ldsPr m => Sys2Proof.Machine.execLdsPr m s
  | .ldsLPr m => Sys2Proof.Machine.execLdsLPr m s
  | .nop => Sys2Proof.Machine.execNop s
  | .rte => Sys2Proof.Machine.execRte s
  | .sett => Sys2Proof.Machine.execSett s
  | .sleep => Sys2Proof.Machine.execSleep s
  | .stcSr n => Sys2Proof.Machine.execStcSr n s
  | .stcLSr n => Sys2Proof.Machine.execStcLSr n s
  | .stcGbr n => Sys2Proof.Machine.execStcGbr n s
  | .stcLGbr n => Sys2Proof.Machine.execStcLGbr n s
  | .stcVbr n => Sys2Proof.Machine.execStcVbr n s
  | .stcLVbr n => Sys2Proof.Machine.execStcLVbr n s
  | .stsMach n => Sys2Proof.Machine.execStsMach n s
  | .stsLMach n => Sys2Proof.Machine.execStsLMach n s
  | .stsMacl n => Sys2Proof.Machine.execStsMacl n s
  | .stsLMacl n => Sys2Proof.Machine.execStsLMacl n s
  | .stsPr n => Sys2Proof.Machine.execStsPr n s
  | .stsLPr n => Sys2Proof.Machine.execStsLPr n s
  | .trapa imm => Sys2Proof.Machine.execTrapa imm s

end Sys2Proof.Machine
end

