-- ==== Sys2Proof/Machine/Step.lean ====
section
/-! DEFINITION. One step of the machine, and how a program's first instruction is placed for it. -/

namespace Sys2Proof.Machine

/-- One step (60_exceptions.md R433): the boundary, and if nothing is decided there, one instruction. -/
def step (s : State) : Host.Outcome State Fault Refusal :=
  match s.boundary with
  | .done r => r
  | .run s' =>
    match s'.fetchDecode with
    | .done r => r
    | .instr i => exec i s'

/-- The state with an instruction placed where the next step fetches it, out of the reset state, nothing arriving from
outside (log 7). -/
def State.withFetchWord (s : State) (nbits w : Nat) : State :=
  { s with mode := .programExecution, inputs := [] }.putValue s.pc (BitVec.ofNat 32 (w % 2 ^ nbits)) .word

end Sys2Proof.Machine
end

