-- ==== Sys2Proof/Safety.lean ====
section
/-! DEFINITION. The terms in which statements about the machine are made: the invariant that every step keeps, and what an
instruction leaves unchanged. -/

namespace Sys2Proof.Machine

/-- No branch is pending, no interrupt is held off, and the last instruction was no untaken BF/S or BT/S. -/
def State.quiescent (s : State) : Prop := s.slot = none ∧ s.inhibit = false ∧ s.afterUntaken = false

/-- The modes in which instructions of a program may be under way: program execution, and the bus release entered from it
(60_exceptions.md R430, R437). -/
def Mode.running : Mode → Bool
  | .programExecution => true
  | .busRelease asleep => !asleep
  | .reset _ => false
  | .exceptionProcessing => false
  | .sleep => false
  | .standby => false

/-- On the SH7000 MACH bits 31-10 are copies of bit 9 (10_state.md R33). -/
def State.machHeld (s : State) : Prop := s.params.series = .sh7000 → s.mach = signExtend10 s.mach

/-- The invariant of the machine. -/
structure State.Inv (s : State) : Prop where
  /-- memory is in its canonical form, every address within 32 bits (20_memory.md R60) -/
  memory : Memory.wf s.mem = true
  /-- on the SH7000 MACH bits 31-10 are copies of bit 9 (10_state.md R33) -/
  mach : s.machHeld
  /-- while a branch is pending the slot instruction is at an even address (60_exceptions.md R407) and interrupts are held
  off by the branch alone (10_state.md R37, R38) -/
  slot : s.slot ≠ none → s.pc.getLsbD 0 = false ∧ s.inhibit = false ∧ s.afterUntaken = false
  /-- an untaken BF/S or BT/S is no interrupt-disabled instruction (45_branch.md R315) -/
  untaken : s.afterUntaken = true → s.inhibit = false
  /-- outside program execution nothing is half done (10_state.md R39) -/
  halted : s.mode.running = false → s.quiescent

/-- Everything outside the numbered registers `regs`, SR, the bytes of memory at `bytes` and the sequencing state is
unchanged: the other registers, GBR, VBR, MACH, MACL, PR, the processing state, the other bytes, the parameters, and
what the environment sees and presents. -/
structure Frame (s t : State) (regs : List Reg) (bytes : List Word) : Prop where
  regs : ∀ k, k ∉ regs → t.reg k = s.reg k
  gbr : t.gbr = s.gbr
  vbr : t.vbr = s.vbr
  mach : t.mach = s.mach
  macl : t.macl = s.macl
  pr : t.pr = s.pr
  mode : t.mode = s.mode
  memory : ∀ a, a ∉ bytes → t.byteAt a = s.byteAt a
  params : t.params = s.params
  inputs : t.inputs = s.inputs
  sby : t.sby = s.sby
  deviceWrites : t.deviceWrites = s.deviceWrites
  draws : t.draws = s.draws

/-- SR is unchanged but for T. -/
def OnlyT (s t : State) : Prop := t.sr = { s.sr with t := t.sr.t }

/-- The instruction completed and control goes on: to the next instruction, or from a delay slot to the destination
(10_state.md R35, R37). Interrupts are held off at the boundary that follows an interrupt-disabled instruction
(46_system_control.md R333). -/
structure Sequential (s t : State) (heldOff : Bool) : Prop where
  pc : t.pc = (match s.slot with | none => s.pc + 2 | some d => d)
  slot : t.slot = none
  inhibit : t.inhibit = heldOff
  afterUntaken : t.afterUntaken = false

/-- The address can be read and written as ordinary memory with an access of this size (20_memory.md R64, R75). -/
def State.ordinary (s : State) (a : Word) (sz : Size) : Prop := a.toNat % sz.bytes = 0 ∧ s.region a = .ram

/-- The address is a device register that an access of this size reaches (20_memory.md R66, R75). -/
def State.device (s : State) (a : Word) (sz : Size) : Prop :=
  a.toNat % sz.bytes = 0 ∧ (s.region a = .periph16 ∨ s.region a = .periph8 ∧ sz ≠ .long)

/-- An access of this size to the address is an address error (20_memory.md R64, R66). -/
def State.misaccess (s : State) (a : Word) (sz : Size) : Prop :=
  a.toNat % sz.bytes ≠ 0 ∨ s.region a = .periph8 ∧ sz = .long

/-- The address is aligned for the size and hits nothing (20_memory.md R75). -/
def State.unmapped (s : State) (a : Word) (sz : Size) : Prop := a.toNat % sz.bytes = 0 ∧ s.region a = .unmapped

/-- The address is a device register (20_memory.md R75). -/
def State.deviceAt (s : State) (a : Word) : Prop := s.region a = .periph8 ∨ s.region a = .periph16

/-! ### What a statement says of an instruction -/

/-- The code with the register field n in bits 11-8. -/
def codeN (base : Code) (n : Reg) : Code := base ||| (n.zeroExtend 16 <<< 8)

/-- The code with the register fields n in bits 11-8 and m in bits 7-4. -/
def codeNM (base : Code) (n m : Reg) : Code := codeN base n ||| (m.zeroExtend 16 <<< 4)

/-- The code with an 8-bit field in bits 7-0. -/
def codeImm (base : Code) (imm : BitVec 8) : Code := base ||| imm.zeroExtend 16

/-- The code with the register field n in bits 11-8 and an 8-bit field in bits 7-0. -/
def codeNImm (base : Code) (n : Reg) (imm : BitVec 8) : Code := codeN base n ||| imm.zeroExtend 16

/-- The code with a register field in bits 7-4 and a 4-bit displacement in bits 3-0. -/
def codeDisp4 (base : Code) (n : Reg) (disp : BitVec 4) : Code := base ||| (n.zeroExtend 16 <<< 4) ||| disp.zeroExtend 16

/-- The code with the register fields n and m and a 4-bit displacement in bits 3-0. -/
def codeNMDisp (base : Code) (n m : Reg) (disp : BitVec 4) : Code := codeNM base n m ||| disp.zeroExtend 16

/-- The code with a 12-bit displacement in bits 11-0. -/
def codeDisp12 (base : Code) (disp : BitVec 12) : Code := base ||| disp.zeroExtend 16

/-- The code stands for the instruction, and is its encoding. -/
structure CodeOf (w : Code) (i : Instr) : Prop where
  decodes : decodeWord w = some i
  encodes : encode i = w

/-- The instruction answers a next state with `v` in register `d` and everything else as it was. -/
def SetsRegister (i : Instr) (s : State) (d : Reg) (v : Word) : Prop :=
  ∃ t, exec i s = .next t ∧ t.reg d = v ∧ t.sr = s.sr ∧ Frame s t [d] [] ∧ Sequential s t false

/-- The instruction answers a next state with `b` in T and everything else as it was. -/
def SetsT (i : Instr) (s : State) (b : Bool) : Prop :=
  ∃ t, exec i s = .next t ∧ t.sr.t = b ∧ OnlyT s t ∧ Frame s t [] [] ∧ Sequential s t false

/-- The instruction answers a next state with `v` in register `d`, `b` in T and everything else as it was. -/
def SetsRegisterAndT (i : Instr) (s : State) (d : Reg) (v : Word) (b : Bool) : Prop :=
  ∃ t, exec i s = .next t ∧ t.reg d = v ∧ t.sr.t = b ∧ OnlyT s t ∧ Frame s t [d] [] ∧ Sequential s t false

/-- The value of a size that memory holds at an address, big-endian (20_memory.md R62), sign-extended (R69). -/
def State.held (s : State) (a : Word) : Size → Word
  | .byte => (s.byteAt a).signExtend 32
  | .word => (s.byteAt a ++ s.byteAt (a + 1)).signExtend 32
  | .long => s.byteAt a ++ (s.byteAt (a + 1) ++ (s.byteAt (a + 2) ++ s.byteAt (a + 3)))

/-- A read of the address delivers `v`, drawing `d` free values: what memory holds, or whatever a device register
delivers. -/
def State.reads (s : State) (a : Word) (sz : Size) (v : Word) (d : Nat) : Prop :=
  s.ordinary a sz ∧ v = s.held a sz ∧ d = 0 ∨ s.device a sz ∧ d = 1 ∧ ∃ raw, v = sz.signExtend raw

/-- A load: where the address can be read, the value it delivers makes `post` true, the other registers are those of
`base` of that value, and nothing else changes; an access that is an address error starts address error exception
processing with nothing changed; an unmapped address has no step. -/
def Loads (i : Instr) (s : State) (ea : Word) (sz : Size) (regs : List Reg) (post : Word → State → Prop)
    (base : Word → State → State) (heldOff : Bool) : Prop :=
  (s.ordinary ea sz ∨ s.device ea sz → ∃ v d t, s.reads ea sz v d ∧ exec i s = .next t ∧ post v t ∧
    t.sr = (base v s).sr ∧ Frame { base v s with draws := s.draws + d } t regs [] ∧ Sequential s t heldOff) ∧
  (s.misaccess ea sz → exec i s = s.addressError) ∧
  (s.unmapped ea sz → exec i s = .fault .unmappedAccess)

/-- A load of the value into register `d`. -/
def LoadsRegister (i : Instr) (s : State) (ea : Word) (sz : Size) (d : Reg) : Prop :=
  Loads i s ea sz [d] (fun v t => t.reg d = v) (fun _ s => s) false

/-- A store: in ordinary memory the bytes of `v`, most significant first, are at the address and nothing else changes but
the registers `regs`, of which `post` speaks; a device register receives `v`; an access that is an address error starts
address error exception processing from the state `atError`; an unmapped address has no step. -/
def Stores (i : Instr) (s : State) (ea : Word) (sz : Size) (v : Word) (regs : List Reg) (post : State → Prop)
    (atError : State) (heldOff : Bool) : Prop :=
  (s.ordinary ea sz → ∃ t, exec i s = .next t ∧
    (∀ k, k < sz.bytes → t.byteAt (ea + BitVec.ofNat 32 k) = v.extractLsb' (8 * (sz.bytes - 1 - k)) 8) ∧ post t ∧
    t.sr = s.sr ∧ Frame s t regs (sz.span ea) ∧ Sequential s t heldOff) ∧
  (s.device ea sz → ∃ t, exec i s = .next t ∧ post t ∧ t.sr = s.sr ∧
    Frame { s with deviceWrites := { addr := ea, size := sz, value := sz.cut v } :: s.deviceWrites } t regs [] ∧
    Sequential s t heldOff) ∧
  (s.misaccess ea sz → exec i s = atError.addressError) ∧
  (s.unmapped ea sz → exec i s = .fault .unmappedAccess)

/-- A store of a register's value. -/
def StoresRegister (i : Instr) (s : State) (ea : Word) (sz : Size) (m : Reg) : Prop :=
  Stores i s ea sz (s.reg m) [] (fun _ => True) s false

/-- A read-modify-write of one byte: `f` of the byte read is written back and SR becomes `sr` of it. -/
def ModifiesByte (i : Instr) (s : State) (ea : Word) (f : Byte → Byte) (sr : Byte → StatusReg) : Prop :=
  (s.ordinary ea .byte → ∃ t, exec i s = .next t ∧ t.byteAt ea = f (s.byteAt ea) ∧ t.sr = sr (s.byteAt ea) ∧
    Frame s t [] [ea] ∧ Sequential s t false) ∧
  (s.device ea .byte → ∃ b t, exec i s = .next t ∧ t.sr = sr b ∧
    Frame { s with
      deviceWrites := { addr := ea, size := .byte, value := (f b).zeroExtend 32 } :: s.deviceWrites
      draws := s.draws + 1 } t [] [] ∧ Sequential s t false) ∧
  (s.unmapped ea .byte → exec i s = .fault .unmappedAccess)

/-- A multiply-accumulate over the operands at Rn, read first, and at Rm (42_multiply_mac.md R246): where both can be read,
`post` holds of the two values and the next state, each register has advanced by the size of the access, or by twice
that where they are one register, and nothing else but MACH and MACL changes; where the second access is an address error
what the first did stands: the increment of Rn and, at a device register, the free value drawn. -/
def Accumulates (i : Instr) (s : State) (m n : Reg) (sz : Size) (post : Word → Word → State → Prop) : Prop :=
  let k := BitVec.ofNat 32 sz.bytes
  let second := if m = n then s.reg n + k else s.reg m
  (s.ordinary (s.reg n) sz ∨ s.device (s.reg n) sz → s.ordinary second sz ∨ s.device second sz →
    ∃ x y d e t, s.reads (s.reg n) sz x d ∧ s.reads second sz y e ∧ exec i s = .next t ∧ post x y t ∧
      t.reg m = second + k ∧ (m ≠ n → t.reg n = s.reg n + k) ∧ t.sr = s.sr ∧
      Frame { s with mach := t.mach, macl := t.macl, draws := s.draws + d + e } t [m, n] [] ∧ Sequential s t false) ∧
  (s.misaccess (s.reg n) sz → exec i s = s.addressError) ∧
  (∀ d, s.ordinary (s.reg n) sz ∧ d = 0 ∨ s.device (s.reg n) sz ∧ d = 1 → s.misaccess second sz →
    exec i s = (State.setReg { s with draws := s.draws + d } n (s.reg n + k)).addressError) ∧
  (s.unmapped (s.reg n) sz → exec i s = .fault .unmappedAccess) ∧
  (s.ordinary (s.reg n) sz ∨ s.device (s.reg n) sz → s.unmapped second sz → exec i s = .fault .unmappedAccess)

/-- No branch is pending and the last instruction was no untaken BF/S or BT/S: where the thirteen instructions of
45_branch.md R301 run. -/
def State.mayBranch (s : State) : Prop := s.slot = none ∧ s.afterUntaken = false

/-- In a delay slot the instruction is slot illegal (45_branch.md R301). -/
def NotInSlot (i : Instr) (s : State) : Prop := ∀ d, s.slot = some d → exec i s = s.slotIllegal d

/-- On the SH7000 the instruction is an unassigned code (30_encoding.md R120). -/
def OnlySH7600 (i : Instr) (s : State) : Prop := s.params.series = .sh7000 → exec i s = s.illegalCode

/-- The branch is taken at once. -/
def Jumps (i : Instr) (s : State) (target : Word) : Prop :=
  ∃ t, exec i s = .next t ∧ t.pc = target ∧ t.slot = none ∧ t.inhibit = false ∧ t.afterUntaken = false ∧ t.sr = s.sr ∧
    Frame s t [] []

/-- The branch is taken after the instruction in the slot; PR is `pr`. -/
def JumpsDelayed (i : Instr) (s : State) (target pr : Word) : Prop :=
  ∃ t, exec i s = .next t ∧ t.pc = s.pc + 2 ∧ t.slot = some target ∧ t.inhibit = false ∧ t.afterUntaken = false ∧
    t.sr = s.sr ∧ Frame { s with pr := pr } t [] []

/-- The branch is not taken. -/
def FallsThrough (i : Instr) (s : State) (untaken : Bool) : Prop :=
  ∃ t, exec i s = .next t ∧ t.pc = s.pc + 2 ∧ t.slot = none ∧ t.inhibit = false ∧ t.afterUntaken = untaken ∧
    t.sr = s.sr ∧ Frame s t [] []

/-! ### Exceptions and the environment -/

/-- The environment presents nothing that a step of program execution acts on: no reset, no bus request, and no DMA
address error or acceptable interrupt, or none that can be accepted here (60_exceptions.md R403, R410, R412). -/
def EnvInput.idleFor (e : EnvInput) (s : State) : Prop :=
  e.reset = none ∧ e.busRequest = false ∧
    (s.slot ≠ none ∨ s.inhibit = true ∨ e.dmaError = false ∧ ∀ q ∈ e.requests, q.level ≤ s.sr.i.toNat)

/-- The state once the environment's entry `e` is consumed. -/
def State.after (s : State) (e : EnvInput) (rest : List EnvInput) : State :=
  { s with inputs := rest, sby := e.sby.getD s.sby }

/-- An instruction is next at the boundary of `s`: the environment presents nothing that the step acts on, and `u` is the
state with its entry, if there is one, consumed. -/
def State.idleAt (s u : State) : Prop :=
  s.inputs = [] ∧ u = s ∨ ∃ e rest, s.inputs = e :: rest ∧ e.idleFor s ∧ u = s.after e rest

/-- An asynchronous event may be accepted at the boundary of `s`: no branch is pending, no interrupt-disabled instruction has
just run (60_exceptions.md R412), and directly after an untaken BF/S or BT/S the next instruction is not one to which the
manual gives two outcomes (45_branch.md R315 (b) and (c)). -/
def State.mayAccept (s : State) : Prop :=
  s.slot = none ∧ s.inhibit = false ∧ (s.afterUntaken = true → s.ordinary s.pc .word →
    ∃ i, decodeWord (s.byteAt s.pc ++ s.byteAt (s.pc + 1)) = some i ∧ i.rewritesPc = false ∧
      i.wellFormed s.params.series = true)

/-- An exception has been taken from `s` (60_exceptions.md R404), with the stack and the vector in ordinary memory: R15 is
8 lower, SR is stacked at the higher address and `spc` at the lower, SR is unchanged but for the mask, control is at the
address the vector holds, and nothing else has changed. -/
structure Entered (s t : State) (v : BitVec 8) (spc : Word) (mask : BitVec 4) : Prop where
  sp : t.reg Reg.sp = s.reg Reg.sp - 8
  savedSr : t.longAt (s.reg Reg.sp - 4) = s.sr.toWord
  savedPc : t.longAt (s.reg Reg.sp - 8) = spc
  pc : t.pc = t.longAt (s.vbr + v.zeroExtend 32 * 4)
  sr : t.sr = { s.sr with i := mask }
  slot : t.slot = none
  inhibit : t.inhibit = false
  afterUntaken : t.afterUntaken = false
  frame : Frame { s with mode := .programExecution } t [Reg.sp]
    (Size.long.span (s.reg Reg.sp - 4) ++ Size.long.span (s.reg Reg.sp - 8))

/-- Where `Entered` happens: the stack is a multiple of 4, both pushes and the vector are in ordinary memory
(60_exceptions.md R405, R409). -/
structure State.canEnter (s : State) (v : BitVec 8) : Prop where
  savedSr : s.ordinary (s.reg Reg.sp - 4) .long
  savedPc : s.ordinary (s.reg Reg.sp - 8) .long
  vector : s.ordinary (s.vbr + v.zeroExtend 32 * 4) .long

end Sys2Proof.Machine
end

