-- ==== Sys2Proof/Certificates/Slice0/Obligations.lean ====
section
/-! DEFINITION. The statements for the provers. -/

open Sys2Proof Sys2Proof.Machine

/-! ### Encoding -/

/-- Decoding the bytes of an instruction, whatever follows them, gives the instruction back: every constructor, every
operand value (30_encoding.md R100, R101, R106). -/
def Obligations.DecodeOfEncodeIsTheInstruction : Prop :=
  ∀ (i : Instr) (rest : List Byte), decode (encodeBytes i ++ rest) = .ok (i, rest)

/-- A code that decodes is the encoding of what it decodes to: no bit of a code is without meaning (30_encoding.md
R123). -/
def Obligations.EncodeOfDecodeIsTheCode : Prop :=
  ∀ (w : Code) (i : Instr), decodeWord w = some i → encode i = w

/-- Codes printed in the manual's examples, byte by byte as they lie in memory, and the unassigned H'FFFF
(30_encoding.md R100, R120). -/
def Obligations.PrintedCodesDecode : Prop :=
  decode [0x61, 0x03] = .ok (.movReg 0 1, []) ∧
  decode [0x73, 0xFE] = .ok (.addImm 0xFE 3, []) ∧
  decode [0x31, 0x05] = .ok (.dmuluL 0 1, []) ∧
  decode [0x41, 0x0F] = .ok (.macW 0 1, []) ∧
  decode [0xCD, 0x80] = .ok (.andMem 0x80, []) ∧
  decode [0x40, 0x25] = .ok (.rotcr 0, []) ∧
  decode [0xA0, 0x01] = .ok (.bra 1, []) ∧
  decode [0xC3, 0x20] = .ok (.trapa 0x20, []) ∧
  decode [0xFF, 0xFF] = .error (.unassigned 0xFFFF)

/-! ### The whole machine -/

/-- The invariant holds right after reset. -/
def Obligations.ResetStateHoldsInvariant : Prop := State.reset.Inv

/-- Every step from a state that holds the invariant gives a state that holds it: memory stays in its canonical form,
MACH of the SH7000 keeps its sign-extended form (10_state.md R33), a pending branch stands before an even slot address
with interrupts held off by it alone, and outside program execution nothing is half done. -/
def Obligations.EveryStepKeepsInvariant : Prop :=
  ∀ s t : State, s.Inv → step s = .next t → t.Inv

/-- Where the environment presents nothing and the bytes at an even `pc` in ordinary memory decode to an instruction,
a step is that instruction's meaning (60_exceptions.md R433); the entry of the environment, where there is one, is
consumed. That its requests have no effect at or below SR.I, or where a branch is pending or an interrupt-disabled
instruction has just run, is the acceptance rule of decision D3, presumed from outside the manual (R410, R412; log
10), and that a DMA address error is held off with them is decision D19, the choice of the spec (log 29). -/
def Obligations.StepRunsTheDecodedInstruction : Prop :=
  ∀ (s : State) (i : Instr), s.mode = .programExecution → s.ordinary s.pc .word →
    decodeWord (s.byteAt s.pc ++ s.byteAt (s.pc + 1)) = some i →
    (s.inputs = [] → step s = exec i s) ∧
    (∀ e rest, s.inputs = e :: rest → e.idleFor s → step s = exec i (s.after e rest))

/-- No step changes what the chip fixes (00_scope.md R7). -/
def Obligations.NoStepChangesTheParameters : Prop :=
  ∀ s t : State, step s = .next t → t.params = s.params

/-- From program execution a step leaves for sleep or standby only by a SLEEP at `pc`, which the SBY bit of the
boundary sends to one or the other, to sleep on a chip without a device register, and otherwise only for the bus
release; never for the reset state or the exception processing state (60_exceptions.md R430-R437; that the environment
presents SBY at the boundary and that taking an exception is one step are the model's form, log 4, log 17, log 27). -/
def Obligations.OnlySleepEntersPowerDown : Prop :=
  ∀ s t : State, s.mode = .programExecution → step s = .next t →
    (t.mode = .programExecution ∨ t.mode = .busRelease false ∨ t.mode = .sleep ∨ t.mode = .standby) ∧
    (t.mode = .sleep ∨ t.mode = .standby →
      decodeWord (s.byteAt s.pc ++ s.byteAt (s.pc + 1)) = some .sleep ∧
      (t.mode = .standby ↔ t.sby = true ∧ ∃ a, t.deviceAt a))

/-- GBR, VBR and PR change under no instruction but those the spec lists as their writers, whether the instruction
completes or ends in an exception (10_state.md R31, R32, R34). -/
def Obligations.OnlyListedInstructionsWriteGbrVbrPr : Prop :=
  ∀ (i : Instr) (s t : State), exec i s = .next t →
    (t.gbr ≠ s.gbr → ∃ m, i = .ldcGbr m ∨ i = .ldcLGbr m) ∧
    (t.vbr ≠ s.vbr → ∃ m, i = .ldcVbr m ∨ i = .ldcLVbr m) ∧
    (t.pr ≠ s.pr → ∃ m d, i = .bsr d ∨ i = .bsrf m ∨ i = .jsr m ∨ i = .ldsPr m ∨ i = .ldsLPr m)

/-- MACH and MACL change under no instruction but those listed as their writers (10_state.md R33). -/
def Obligations.OnlyListedInstructionsWriteTheAccumulator : Prop :=
  ∀ (i : Instr) (s t : State), exec i s = .next t →
    (t.mach ≠ s.mach → ∃ m n, i = .clrmac ∨ i = .ldsMach m ∨ i = .ldsLMach m ∨ i = .macW m n ∨ i = .macL m n ∨
      i = .dmulsL m n ∨ i = .dmuluL m n) ∧
    (t.macl ≠ s.macl → ∃ m n, i = .clrmac ∨ i = .ldsMacl m ∨ i = .ldsLMacl m ∨ i = .macW m n ∨ i = .macL m n ∨
      i = .dmulsL m n ∨ i = .dmuluL m n ∨ i = .mulL m n ∨ i = .mulsW m n ∨ i = .muluW m n)

/-- S and the interrupt mask change under no instruction but the three that write SR as a whole, M and Q under those
and the division instructions, T under the instructions listed as its writers (10_state.md R27-R30). -/
def Obligations.OnlyListedInstructionsWriteSr : Prop :=
  ∀ (i : Instr) (s t : State), exec i s = .next t →
    (t.sr.s ≠ s.sr.s ∨ t.sr.i ≠ s.sr.i → ∃ m, i = .ldcSr m ∨ i = .ldcLSr m ∨ i = .rte) ∧
    (t.sr.m ≠ s.sr.m → ∃ m n, i = .ldcSr m ∨ i = .ldcLSr m ∨ i = .rte ∨ i = .div0s m n ∨ i = .div0u) ∧
    (t.sr.q ≠ s.sr.q → ∃ m n, i = .ldcSr m ∨ i = .ldcLSr m ∨ i = .rte ∨ i = .div0s m n ∨ i = .div0u ∨
      i = .div1 m n) ∧
    (t.sr.t ≠ s.sr.t → ∃ m n imm, i = .addc m n ∨ i = .addv m n ∨ i = .cmpEqImm imm ∨ i = .cmpEq m n ∨
      i = .cmpHs m n ∨ i = .cmpGe m n ∨ i = .cmpHi m n ∨ i = .cmpGt m n ∨ i = .cmpPl n ∨ i = .cmpPz n ∨
      i = .cmpStr m n ∨ i = .div0s m n ∨ i = .div0u ∨ i = .div1 m n ∨ i = .dt n ∨ i = .negc m n ∨ i = .subc m n ∨
      i = .subv m n ∨ i = .tas n ∨ i = .tstReg m n ∨ i = .tstImm imm ∨ i = .tstMem imm ∨ i = .rotl n ∨ i = .rotr n ∨
      i = .rotcl n ∨ i = .rotcr n ∨ i = .shal n ∨ i = .shar n ∨ i = .shll n ∨ i = .shlr n ∨ i = .clrt ∨ i = .sett ∨
      i = .ldcSr m ∨ i = .ldcLSr m ∨ i = .rte)

/-- SR as a 32-bit value is (M << 9) | (Q << 8) | (I << 4) | (S << 1) | T; loading it as a whole keeps exactly the
bits of H'000003F3, and loading what was stored gives it back (10_state.md R24, R25). -/
def Obligations.StatusRegisterLayout : Prop :=
  (∀ f : StatusReg, f.toWord = (bitWord f.m <<< 9) ||| (bitWord f.q <<< 8) ||| (f.i.zeroExtend 32 <<< 4) |||
    (bitWord f.s <<< 1) ||| bitWord f.t) ∧
  (∀ v : Word, (StatusReg.ofWord v).toWord = v &&& 0x3F3) ∧
  (∀ f : StatusReg, StatusReg.ofWord f.toWord = f)

/-- A byte of memory reads as last written, every other byte as before, and a value written reads back cut to its size
(20_memory.md R62, R72). -/
def Obligations.ReadAfterWrite : Prop :=
  ∀ (s : State) (a v : Word) (sz : Size) (t : State), s.ordinary a sz → s.memWrite a sz v = .ok t →
    t.memRead a sz = .ok (sz.cut v, t) ∧ (∀ b, b ∉ sz.span a → t.byteAt b = s.byteAt b) ∧
    (∀ k, k < sz.bytes → t.byteAt (a + BitVec.ofNat 32 k) = v.extractLsb' (8 * (sz.bytes - 1 - k)) 8)

/-! ### Data transfer -/

/-- MOV between registers, MOV #imm, MOVA, MOVT, SWAP.B, SWAP.W and XTRCT, with their codes (40_data_transfer.md R141,
R160, R175-R179). -/
def Obligations.RegisterMoves : Prop :=
  ∀ (m n : Reg) (imm disp : BitVec 8) (s : State),
    (CodeOf (codeNM 0x6003 n m) (.movReg m n) ∧ SetsRegister (.movReg m n) s n (s.reg m)) ∧
    (CodeOf (codeNImm 0xE000 n imm) (.movImm imm n) ∧ SetsRegister (.movImm imm n) s n (imm.signExtend 32)) ∧
    (CodeOf (codeImm 0xC700 disp) (.mova disp) ∧ SetsRegister (.mova disp) s 0
      (((match s.slot with | none => s.pc + 4 | some t => t + 2) &&& 0xFFFFFFFC) + disp.zeroExtend 32 * 4)) ∧
    (CodeOf (codeN 0x0029 n) (.movt n) ∧ SetsRegister (.movt n) s n (if s.sr.t then 1 else 0)) ∧
    (CodeOf (codeNM 0x6008 n m) (.swapB m n) ∧ SetsRegister (.swapB m n) s n
      ((s.reg m &&& 0xFFFF0000) ||| ((s.reg m &&& 0xFF) <<< 8) ||| ((s.reg m &&& 0xFF00) >>> 8))) ∧
    (CodeOf (codeNM 0x6009 n m) (.swapW m n) ∧ SetsRegister (.swapW m n) s n
      ((s.reg m <<< 16) ||| ((s.reg m >>> 16) &&& 0xFFFF))) ∧
    (CodeOf (codeNM 0x200D n m) (.xtrct m n) ∧ SetsRegister (.xtrct m n) s n
      (((s.reg m <<< 16) &&& 0xFFFF0000) ||| ((s.reg n >>> 16) &&& 0xFFFF)))

/-- The loads through a register and through R0 + a register, and with post-increment: Rm advances by the size, unless
it is Rn, which then holds the value loaded (40_data_transfer.md R145-R147, R151-R153, R157-R159). What a device
register delivers (a free value, log 15), that an unmapped address has no step (log 14) and that an address error
leaves every register (log 12) are the choices of 20_memory.md R75 with D5 and R65 with D6. -/
def Obligations.LoadsThroughRegisters : Prop :=
  ∀ (m n : Reg) (s : State),
    let post := fun (k : Word) (v : Word) (t : State) => t.reg n = v ∧ (n ≠ m → t.reg m = s.reg m + k);
    (CodeOf (codeNM 0x6000 n m) (.movBLoad m n) ∧ LoadsRegister (.movBLoad m n) s (s.reg m) .byte n) ∧
    (CodeOf (codeNM 0x6001 n m) (.movWLoad m n) ∧ LoadsRegister (.movWLoad m n) s (s.reg m) .word n) ∧
    (CodeOf (codeNM 0x6002 n m) (.movLLoad m n) ∧ LoadsRegister (.movLLoad m n) s (s.reg m) .long n) ∧
    (CodeOf (codeNM 0x000C n m) (.movBLoadIdx m n) ∧
      LoadsRegister (.movBLoadIdx m n) s (s.reg m + s.reg 0) .byte n) ∧
    (CodeOf (codeNM 0x000D n m) (.movWLoadIdx m n) ∧
      LoadsRegister (.movWLoadIdx m n) s (s.reg m + s.reg 0) .word n) ∧
    (CodeOf (codeNM 0x000E n m) (.movLLoadIdx m n) ∧
      LoadsRegister (.movLLoadIdx m n) s (s.reg m + s.reg 0) .long n) ∧
    (CodeOf (codeNM 0x6004 n m) (.movBLoadInc m n) ∧
      Loads (.movBLoadInc m n) s (s.reg m) .byte [n, m] (post 1) (fun _ s => s) false) ∧
    (CodeOf (codeNM 0x6005 n m) (.movWLoadInc m n) ∧
      Loads (.movWLoadInc m n) s (s.reg m) .word [n, m] (post 2) (fun _ s => s) false) ∧
    (CodeOf (codeNM 0x6006 n m) (.movLLoadInc m n) ∧
      Loads (.movLLoadInc m n) s (s.reg m) .long [n, m] (post 4) (fun _ s => s) false)

/-- The loads relative to PC, to GBR and to a register (40_data_transfer.md R161-R165, R172-R174). What a device
register delivers (a free value, log 15), that an unmapped address has no step (log 14) and that an address error
leaves every register (log 12) are the choices of 20_memory.md R75 with D5 and R65 with D6. -/
def Obligations.LoadsWithDisplacement : Prop :=
  ∀ (m n : Reg) (disp : BitVec 8) (d : BitVec 4) (s : State),
    let pcv := match s.slot with | none => s.pc + 4 | some t => t + 2;
    (CodeOf (codeNImm 0x9000 n disp) (.movWLoadPc disp n) ∧
      LoadsRegister (.movWLoadPc disp n) s (pcv + disp.zeroExtend 32 * 2) .word n) ∧
    (CodeOf (codeNImm 0xD000 n disp) (.movLLoadPc disp n) ∧
      LoadsRegister (.movLLoadPc disp n) s ((pcv &&& 0xFFFFFFFC) + disp.zeroExtend 32 * 4) .long n) ∧
    (CodeOf (codeImm 0xC400 disp) (.movBLoadGbr disp) ∧
      LoadsRegister (.movBLoadGbr disp) s (s.gbr + disp.zeroExtend 32) .byte 0) ∧
    (CodeOf (codeImm 0xC500 disp) (.movWLoadGbr disp) ∧
      LoadsRegister (.movWLoadGbr disp) s (s.gbr + disp.zeroExtend 32 * 2) .word 0) ∧
    (CodeOf (codeImm 0xC600 disp) (.movLLoadGbr disp) ∧
      LoadsRegister (.movLLoadGbr disp) s (s.gbr + disp.zeroExtend 32 * 4) .long 0) ∧
    (CodeOf (codeDisp4 0x8400 m d) (.movBLoadDisp d m) ∧
      LoadsRegister (.movBLoadDisp d m) s (s.reg m + d.zeroExtend 32) .byte 0) ∧
    (CodeOf (codeDisp4 0x8500 m d) (.movWLoadDisp d m) ∧
      LoadsRegister (.movWLoadDisp d m) s (s.reg m + d.zeroExtend 32 * 2) .word 0) ∧
    (CodeOf (codeNMDisp 0x5000 n m d) (.movLLoadDisp d m n) ∧
      LoadsRegister (.movLLoadDisp d m n) s (s.reg m + d.zeroExtend 32 * 4) .long n)

/-- The stores through a register and through R0 + a register, and with pre-decrement: the value stored is that of Rm
before the decrement, Rn takes the address, and an address error leaves Rn as it was (40_data_transfer.md R142-R144,
R148-R150, R154-R156). That a write to a device register is recorded for the environment (log 15), that an unmapped
address has no step (log 14) and that an address error changes no byte and no register (log 12) are the choices of
20_memory.md R75 with D5 and R65 with D6. -/
def Obligations.StoresThroughRegisters : Prop :=
  ∀ (m n : Reg) (s : State),
    (CodeOf (codeNM 0x2000 n m) (.movBStore m n) ∧ StoresRegister (.movBStore m n) s (s.reg n) .byte m) ∧
    (CodeOf (codeNM 0x2001 n m) (.movWStore m n) ∧ StoresRegister (.movWStore m n) s (s.reg n) .word m) ∧
    (CodeOf (codeNM 0x2002 n m) (.movLStore m n) ∧ StoresRegister (.movLStore m n) s (s.reg n) .long m) ∧
    (CodeOf (codeNM 0x0004 n m) (.movBStoreIdx m n) ∧
      StoresRegister (.movBStoreIdx m n) s (s.reg n + s.reg 0) .byte m) ∧
    (CodeOf (codeNM 0x0005 n m) (.movWStoreIdx m n) ∧
      StoresRegister (.movWStoreIdx m n) s (s.reg n + s.reg 0) .word m) ∧
    (CodeOf (codeNM 0x0006 n m) (.movLStoreIdx m n) ∧
      StoresRegister (.movLStoreIdx m n) s (s.reg n + s.reg 0) .long m) ∧
    (CodeOf (codeNM 0x2004 n m) (.movBStoreDec m n) ∧ Stores (.movBStoreDec m n) s (s.reg n - 1) .byte (s.reg m) [n]
      (fun t => t.reg n = s.reg n - 1) s false) ∧
    (CodeOf (codeNM 0x2005 n m) (.movWStoreDec m n) ∧ Stores (.movWStoreDec m n) s (s.reg n - 2) .word (s.reg m) [n]
      (fun t => t.reg n = s.reg n - 2) s false) ∧
    (CodeOf (codeNM 0x2006 n m) (.movLStoreDec m n) ∧ Stores (.movLStoreDec m n) s (s.reg n - 4) .long (s.reg m) [n]
      (fun t => t.reg n = s.reg n - 4) s false)

/-- The stores relative to GBR and to a register (40_data_transfer.md R166-R171). That a write to a device register is
recorded for the environment (log 15), that an unmapped address has no step (log 14) and that an address error changes
no byte (log 12) are the choices of 20_memory.md R75 with D5 and R65 with D6. -/
def Obligations.StoresWithDisplacement : Prop :=
  ∀ (m n : Reg) (disp : BitVec 8) (d : BitVec 4) (s : State),
    (CodeOf (codeImm 0xC000 disp) (.movBStoreGbr disp) ∧
      StoresRegister (.movBStoreGbr disp) s (s.gbr + disp.zeroExtend 32) .byte 0) ∧
    (CodeOf (codeImm 0xC100 disp) (.movWStoreGbr disp) ∧
      StoresRegister (.movWStoreGbr disp) s (s.gbr + disp.zeroExtend 32 * 2) .word 0) ∧
    (CodeOf (codeImm 0xC200 disp) (.movLStoreGbr disp) ∧
      StoresRegister (.movLStoreGbr disp) s (s.gbr + disp.zeroExtend 32 * 4) .long 0) ∧
    (CodeOf (codeDisp4 0x8000 n d) (.movBStoreDisp d n) ∧
      StoresRegister (.movBStoreDisp d n) s (s.reg n + d.zeroExtend 32) .byte 0) ∧
    (CodeOf (codeDisp4 0x8100 n d) (.movWStoreDisp d n) ∧
      StoresRegister (.movWStoreDisp d n) s (s.reg n + d.zeroExtend 32 * 2) .word 0) ∧
    (CodeOf (codeNMDisp 0x1000 n m d) (.movLStoreDisp m d n) ∧
      StoresRegister (.movLStoreDisp m d n) s (s.reg n + d.zeroExtend 32 * 4) .long m)

/-! ### Arithmetic -/

/-- ADD, SUB, NEG and the extensions, with their codes: the register alone changes (41_arithmetic.md R201, R202,
R220-R223, R230, R233). -/
def Obligations.AddSubNegExtend : Prop :=
  ∀ (m n : Reg) (imm : BitVec 8) (s : State),
    (CodeOf (codeNM 0x300C n m) (.add m n) ∧ SetsRegister (.add m n) s n (s.reg n + s.reg m)) ∧
    (CodeOf (codeNImm 0x7000 n imm) (.addImm imm n) ∧
      SetsRegister (.addImm imm n) s n (s.reg n + imm.signExtend 32)) ∧
    (CodeOf (codeNM 0x3008 n m) (.sub m n) ∧ SetsRegister (.sub m n) s n (s.reg n - s.reg m)) ∧
    (CodeOf (codeNM 0x600B n m) (.neg m n) ∧ SetsRegister (.neg m n) s n (-(s.reg m))) ∧
    (CodeOf (codeNM 0x600E n m) (.extsB m n) ∧
      SetsRegister (.extsB m n) s n (((s.reg m).truncate 8).signExtend 32)) ∧
    (CodeOf (codeNM 0x600F n m) (.extsW m n) ∧
      SetsRegister (.extsW m n) s n (((s.reg m).truncate 16).signExtend 32)) ∧
    (CodeOf (codeNM 0x600C n m) (.extuB m n) ∧ SetsRegister (.extuB m n) s n (s.reg m &&& 0xFF)) ∧
    (CodeOf (codeNM 0x600D n m) (.extuW m n) ∧ SetsRegister (.extuW m n) s n (s.reg m &&& 0xFFFF))

/-- ADDC, SUBC and NEGC as exact integer sums and differences: T is the carry or the borrow, so that the result and T
together lose nothing (41_arithmetic.md R203, R231, R234). -/
def Obligations.CarryAndBorrowAreExact : Prop :=
  ∀ (m n : Reg) (s : State),
    (CodeOf (codeNM 0x300E n m) (.addc m n) ∧ ∃ t, exec (.addc m n) s = .next t ∧
      (t.reg n).toNat + 2 ^ 32 * bitNat t.sr.t = (s.reg n).toNat + (s.reg m).toNat + bitNat s.sr.t ∧
      OnlyT s t ∧ Frame s t [n] [] ∧ Sequential s t false) ∧
    (CodeOf (codeNM 0x300A n m) (.subc m n) ∧ ∃ t, exec (.subc m n) s = .next t ∧
      (t.reg n).toNat + (s.reg m).toNat + bitNat s.sr.t = (s.reg n).toNat + 2 ^ 32 * bitNat t.sr.t ∧
      OnlyT s t ∧ Frame s t [n] [] ∧ Sequential s t false) ∧
    (CodeOf (codeNM 0x600A n m) (.negc m n) ∧ ∃ t, exec (.negc m n) s = .next t ∧
      (t.reg n).toNat + (s.reg m).toNat + bitNat s.sr.t = 2 ^ 32 * bitNat t.sr.t ∧
      OnlyT s t ∧ Frame s t [n] [] ∧ Sequential s t false)

/-- ADDV and SUBV: T says exactly whether the signed sum or difference lies outside -2^31 to 2^31-1 (41_arithmetic.md
R204, R235). -/
def Obligations.SignedOverflowIsExact : Prop :=
  ∀ (m n : Reg) (s : State),
    let sum := (s.reg n).toInt + (s.reg m).toInt;
    let difference := (s.reg n).toInt - (s.reg m).toInt;
    (CodeOf (codeNM 0x300F n m) (.addv m n) ∧
      SetsRegisterAndT (.addv m n) s n (s.reg n + s.reg m) (decide (sum < -2 ^ 31 ∨ 2 ^ 31 - 1 < sum))) ∧
    (CodeOf (codeNM 0x300B n m) (.subv m n) ∧
      SetsRegisterAndT (.subv m n) s n (s.reg n - s.reg m)
        (decide (difference < -2 ^ 31 ∨ 2 ^ 31 - 1 < difference)))

/-- The comparisons: T alone changes; CMP/STR asks for a byte of Rn equal to the byte of Rm in the same place
(41_arithmetic.md R205-R213). -/
def Obligations.Comparisons : Prop :=
  ∀ (m n : Reg) (imm : BitVec 8) (s : State),
    (CodeOf (codeImm 0x8800 imm) (.cmpEqImm imm) ∧
      SetsT (.cmpEqImm imm) s (decide ((s.reg 0).toInt = imm.toInt))) ∧
    (CodeOf (codeNM 0x3000 n m) (.cmpEq m n) ∧ SetsT (.cmpEq m n) s (decide (s.reg n = s.reg m))) ∧
    (CodeOf (codeNM 0x3002 n m) (.cmpHs m n) ∧
      SetsT (.cmpHs m n) s (decide ((s.reg n).toNat ≥ (s.reg m).toNat))) ∧
    (CodeOf (codeNM 0x3003 n m) (.cmpGe m n) ∧
      SetsT (.cmpGe m n) s (decide ((s.reg n).toInt ≥ (s.reg m).toInt))) ∧
    (CodeOf (codeNM 0x3006 n m) (.cmpHi m n) ∧
      SetsT (.cmpHi m n) s (decide ((s.reg n).toNat > (s.reg m).toNat))) ∧
    (CodeOf (codeNM 0x3007 n m) (.cmpGt m n) ∧
      SetsT (.cmpGt m n) s (decide ((s.reg n).toInt > (s.reg m).toInt))) ∧
    (CodeOf (codeN 0x4015 n) (.cmpPl n) ∧ SetsT (.cmpPl n) s (decide ((s.reg n).toInt > 0))) ∧
    (CodeOf (codeN 0x4011 n) (.cmpPz n) ∧ SetsT (.cmpPz n) s (decide ((s.reg n).toInt ≥ 0))) ∧
    (CodeOf (codeNM 0x200C n m) (.cmpStr m n) ∧ ∃ t, exec (.cmpStr m n) s = .next t ∧
      (t.sr.t = true ↔ ∃ k, k < 4 ∧ (s.reg n).toNat / 256 ^ k % 256 = (s.reg m).toNat / 256 ^ k % 256) ∧
      OnlyT s t ∧ Frame s t [] [] ∧ Sequential s t false)

/-- DIV0S and DIV0U set M, Q and T and nothing else; DT, on the SH7600, counts down and tests for 0 (41_arithmetic.md
R215, R216, R219). -/
def Obligations.DivisionInitialisationAndDecrement : Prop :=
  ∀ (m n : Reg) (s : State),
    (CodeOf (codeNM 0x2007 n m) (.div0s m n) ∧ ∃ t, exec (.div0s m n) s = .next t ∧
      t.sr = { s.sr with
        m := decide ((s.reg m).toInt < 0), q := decide ((s.reg n).toInt < 0)
        t := decide (¬((s.reg m).toInt < 0 ↔ (s.reg n).toInt < 0)) } ∧
      Frame s t [] [] ∧ Sequential s t false) ∧
    (CodeOf 0x0019 .div0u ∧ ∃ t, exec .div0u s = .next t ∧
      t.sr = { s.sr with m := false, q := false, t := false } ∧ Frame s t [] [] ∧ Sequential s t false) ∧
    (CodeOf (codeN 0x4010 n) (.dt n) ∧ OnlySH7600 (.dt n) s ∧ (s.params.series = .sh7600 →
      SetsRegisterAndT (.dt n) s n (s.reg n - 1) (decide ((s.reg n).toNat = 1))))

/-- DIV1 is one addition or subtraction of 33-bit numbers: Q and Rn together are twice the old Rn, with T entering at
bit 0, minus the divisor extended by M where the old Q equals M and plus it where not; T says whether the new Q equals
M. Where the divisor is Rn itself it is the shifted value (the closed form of 41_arithmetic.md R217). -/
def Obligations.DivisionStepIsA33BitSum : Prop :=
  ∀ (m n : Reg) (s : State), CodeOf (codeNM 0x3004 n m) (.div1 m n) ∧
    (let shifted := 2 * (s.reg n).toNat + bitNat s.sr.t;
    let divisor := (if m = n then shifted % 2 ^ 32 else (s.reg m).toNat) + 2 ^ 32 * bitNat s.sr.m;
    ∃ t, exec (.div1 m n) s = .next t ∧
      (t.reg n).toNat + 2 ^ 32 * bitNat t.sr.q =
        (if s.sr.q = s.sr.m then shifted + 2 ^ 33 - divisor else shifted + divisor) % 2 ^ 33 ∧
      t.sr = { s.sr with q := t.sr.q, t := decide (t.sr.q = s.sr.m) } ∧ Frame s t [n] [] ∧ Sequential s t false)

/-- The step of an unsigned division (M clear): with the partial remainder P read as Rn - 2^32 * Q, and P within -d to
d - 1, the next partial remainder is 2P + T minus d where P was not negative and plus d where it was; it is within the
same bounds, and T, the quotient bit, says that it is not negative (41_arithmetic.md R214, R217). -/
def Obligations.UnsignedDivisionStepKeepsTheRemainder : Prop :=
  ∀ (m n : Reg) (s : State), m ≠ n → s.sr.m = false →
    let d : Int := (s.reg m).toNat;
    let p : Int := (s.reg n).toNat - 2 ^ 32 * bitNat s.sr.q;
    -d ≤ p → p < d →
    ∃ t, exec (.div1 m n) s = .next t ∧
      (let p' : Int := (t.reg n).toNat - 2 ^ 32 * bitNat t.sr.q;
      p' = 2 * p + bitNat s.sr.t - (if 0 ≤ p then d else -d) ∧ -d ≤ p' ∧ p' < d ∧ t.sr.t = decide (0 ≤ p')) ∧
      t.sr.m = false ∧ t.reg m = s.reg m

/-! ### Multiply and accumulate -/

/-- The products, exact (42_multiply_mac.md R241-R245). -/
def Obligations.Products : Prop :=
  ∀ (m n : Reg) (s : State),
    let low := fun (k : Reg) => (s.reg k).truncate 16;
    (CodeOf (codeNM 0x300D n m) (.dmulsL m n) ∧ OnlySH7600 (.dmulsL m n) s ∧
      (s.params.series = .sh7600 → ∃ t, exec (.dmulsL m n) s = .next t ∧
      (t.mach ++ t.macl).toInt = (s.reg n).toInt * (s.reg m).toInt ∧
      t.sr = s.sr ∧ Frame { s with mach := t.mach, macl := t.macl } t [] [] ∧ Sequential s t false)) ∧
    (CodeOf (codeNM 0x3005 n m) (.dmuluL m n) ∧ OnlySH7600 (.dmuluL m n) s ∧
      (s.params.series = .sh7600 → ∃ t, exec (.dmuluL m n) s = .next t ∧
      (t.mach ++ t.macl).toNat = (s.reg n).toNat * (s.reg m).toNat ∧
      t.sr = s.sr ∧ Frame { s with mach := t.mach, macl := t.macl } t [] [] ∧ Sequential s t false)) ∧
    (CodeOf (codeNM 0x0007 n m) (.mulL m n) ∧ OnlySH7600 (.mulL m n) s ∧
      (s.params.series = .sh7600 → ∃ t, exec (.mulL m n) s = .next t ∧
      t.macl.toNat = (s.reg n).toNat * (s.reg m).toNat % 2 ^ 32 ∧
      t.sr = s.sr ∧ Frame { s with macl := t.macl } t [] [] ∧ Sequential s t false)) ∧
    (CodeOf (codeNM 0x200F n m) (.mulsW m n) ∧ ∃ t, exec (.mulsW m n) s = .next t ∧
      t.macl.toInt = (low n).toInt * (low m).toInt ∧
      t.sr = s.sr ∧ Frame { s with macl := t.macl } t [] [] ∧ Sequential s t false) ∧
    (CodeOf (codeNM 0x200E n m) (.muluW m n) ∧ ∃ t, exec (.muluW m n) s = .next t ∧
      t.macl.toNat = (low n).toNat * (low m).toNat ∧
      t.sr = s.sr ∧ Frame { s with macl := t.macl } t [] [] ∧ Sequential s t false)

/-- MAC.L on the SH7600: 64-bit accumulation with S clear; with S set the low 48 bits accumulate and the sum is
limited to 48 bits, the spec's reading of two parts of the manual that disagree (42_multiply_mac.md R246, R247 with
decision D13; log 18). What a device register delivers (a free value, log 15) and that an unmapped address has no step
(log 14) are the choices of 20_memory.md R75 with D5; that the first increment stands where the second access is an
address error (log 12) is that of R65 with D6. -/
def Obligations.MultiplyAccumulateLong : Prop :=
  ∀ (m n : Reg) (s : State), CodeOf (codeNM 0x000F n m) (.macL m n) ∧
    OnlySH7600 (.macL m n) s ∧ (s.params.series = .sh7600 →
    Accumulates (.macL m n) s m n .long fun x y t =>
      if s.sr.s then
        (t.mach ++ t.macl).toInt =
          max (-2 ^ 47) (min (2 ^ 47 - 1) (((s.mach ++ s.macl).truncate 48).toInt + x.toInt * y.toInt))
      else t.mach ++ t.macl = BitVec.ofInt 64 ((s.mach ++ s.macl).toInt + x.toInt * y.toInt))

/-- MAC.W: with S set a 32-bit sum limited to 32 bits, bit 0 of MACH recording that it was limited, on both series as
the spec decides (D14; log 19); with S clear 64 bits on the SH7600 and 42 bits, MACH sign-extended from its bit 9, on
the SH7000 (42_multiply_mac.md R246, R248, R249). What a device register delivers (a free value, log 15) and that an
unmapped address has no step (log 14) are the choices of 20_memory.md R75 with D5; that the first increment stands
where the second access is an address error (log 12) is that of R65 with D6. -/
def Obligations.MultiplyAccumulateWord : Prop :=
  ∀ (m n : Reg) (s : State), s.machHeld → CodeOf (codeNM 0x400F n m) (.macW m n) ∧
    Accumulates (.macW m n) s m n .word fun x y t =>
      let sum := s.macl.toInt + x.toInt * y.toInt;
      if s.sr.s then
        t.macl.toInt = max (-2 ^ 31) (min (2 ^ 31 - 1) sum) ∧
        t.mach = (if -2 ^ 31 ≤ sum ∧ sum ≤ 2 ^ 31 - 1 then s.mach else s.mach ||| 1)
      else
        match s.params.series with
        | .sh7600 => t.mach ++ t.macl = BitVec.ofInt 64 ((s.mach ++ s.macl).toInt + x.toInt * y.toInt)
        | .sh7000 => (t.mach ++ t.macl).truncate 42 =
            BitVec.ofInt 42 (((s.mach ++ s.macl).truncate 42).toInt + x.toInt * y.toInt) ∧
          t.mach = signExtend10 t.mach

/-! ### Logic -/

/-- The register and immediate forms of AND, OR, XOR and NOT, bit by bit (43_logic.md R261, R262, R264, R267, R268,
R274, R275). -/
def Obligations.LogicOnRegisters : Prop :=
  ∀ (m n : Reg) (imm : BitVec 8) (s : State),
    (CodeOf (codeNM 0x2009 n m) (.andReg m n) ∧ SetsRegister (.andReg m n) s n (s.reg n &&& s.reg m)) ∧
    (CodeOf (codeImm 0xC900 imm) (.andImm imm) ∧ SetsRegister (.andImm imm) s 0 (s.reg 0 &&& imm.zeroExtend 32)) ∧
    (CodeOf (codeNM 0x6007 n m) (.notReg m n) ∧ SetsRegister (.notReg m n) s n (s.reg m ^^^ 0xFFFFFFFF)) ∧
    (CodeOf (codeNM 0x200B n m) (.orReg m n) ∧ SetsRegister (.orReg m n) s n (s.reg n ||| s.reg m)) ∧
    (CodeOf (codeImm 0xCB00 imm) (.orImm imm) ∧ SetsRegister (.orImm imm) s 0 (s.reg 0 ||| imm.zeroExtend 32)) ∧
    (CodeOf (codeNM 0x200A n m) (.xorReg m n) ∧ SetsRegister (.xorReg m n) s n (s.reg n ^^^ s.reg m)) ∧
    (CodeOf (codeImm 0xCA00 imm) (.xorImm imm) ∧ SetsRegister (.xorImm imm) s 0 (s.reg 0 ^^^ imm.zeroExtend 32))

/-- The three forms of TST (43_logic.md R270-R272). What TST.B reads from a device register (a free value, log 15) and
that an unmapped address has no step (log 14) are the choices of 20_memory.md R75 with D5. -/
def Obligations.Tests : Prop :=
  ∀ (m n : Reg) (imm : BitVec 8) (s : State),
    (CodeOf (codeNM 0x2008 n m) (.tstReg m n) ∧ SetsT (.tstReg m n) s (decide (s.reg n &&& s.reg m = 0))) ∧
    (CodeOf (codeImm 0xC800 imm) (.tstImm imm) ∧
      SetsT (.tstImm imm) s (decide (s.reg 0 &&& imm.zeroExtend 32 = 0))) ∧
    (CodeOf (codeImm 0xCC00 imm) (.tstMem imm) ∧
      Loads (.tstMem imm) s (s.gbr + s.reg 0) .byte [] (fun _ _ => True)
        (fun v s => s.setT (decide (v.truncate 8 &&& imm = 0))) false)

/-- AND.B, OR.B, XOR.B and TAS.B read one byte and write it back changed (43_logic.md R263, R265, R266, R269, R276).
What a device register delivers (a free value) and that the write to it is recorded for the environment (log 15), and
that an unmapped address has no step (log 14), are the choices of 20_memory.md R75 with D5. -/
def Obligations.ByteReadModifyWrite : Prop :=
  ∀ (n : Reg) (imm : BitVec 8) (s : State),
    (CodeOf (codeImm 0xCD00 imm) (.andMem imm) ∧
      ModifiesByte (.andMem imm) s (s.gbr + s.reg 0) (fun b => b &&& imm) (fun _ => s.sr)) ∧
    (CodeOf (codeImm 0xCF00 imm) (.orMem imm) ∧
      ModifiesByte (.orMem imm) s (s.gbr + s.reg 0) (fun b => b ||| imm) (fun _ => s.sr)) ∧
    (CodeOf (codeImm 0xCE00 imm) (.xorMem imm) ∧
      ModifiesByte (.xorMem imm) s (s.gbr + s.reg 0) (fun b => b ^^^ imm) (fun _ => s.sr)) ∧
    (CodeOf (codeN 0x401B n) (.tas n) ∧
      ModifiesByte (.tas n) s (s.reg n) (fun b => b ||| 0x80) (fun b => { s.sr with t := decide (b = 0) }))

/-! ### Shifts -/

/-- The rotates: through T as a 33-bit number, without T as a 32-bit number (44_shift.md R281-R284). -/
def Obligations.Rotates : Prop :=
  ∀ (n : Reg) (s : State),
    let high := decide (2 ^ 31 ≤ (s.reg n).toNat);
    let low := decide ((s.reg n).toNat % 2 = 1);
    (CodeOf (codeN 0x4004 n) (.rotl n) ∧ SetsRegisterAndT (.rotl n) s n
      (BitVec.ofNat 32 (2 * (s.reg n).toNat + bitNat high)) high) ∧
    (CodeOf (codeN 0x4005 n) (.rotr n) ∧ SetsRegisterAndT (.rotr n) s n
      (BitVec.ofNat 32 ((s.reg n).toNat / 2 + 2 ^ 31 * bitNat low)) low) ∧
    (CodeOf (codeN 0x4024 n) (.rotcl n) ∧ ∃ t, exec (.rotcl n) s = .next t ∧
      (t.reg n).toNat + 2 ^ 32 * bitNat t.sr.t = 2 * (s.reg n).toNat + bitNat s.sr.t ∧
      OnlyT s t ∧ Frame s t [n] [] ∧ Sequential s t false) ∧
    (CodeOf (codeN 0x4025 n) (.rotcr n) ∧ ∃ t, exec (.rotcr n) s = .next t ∧
      2 * (t.reg n).toNat + bitNat t.sr.t = (s.reg n).toNat + 2 ^ 32 * bitNat s.sr.t ∧
      OnlyT s t ∧ Frame s t [n] [] ∧ Sequential s t false)

/-- The shifts by one bit: SHAL and SHLL double, SHAR halves the signed and SHLR the unsigned value, rounding down; T
is the bit shifted out. The shifts by 2, 8 and 16 leave T (44_shift.md R285-R294). -/
def Obligations.Shifts : Prop :=
  ∀ (n : Reg) (s : State),
    let high := decide (2 ^ 31 ≤ (s.reg n).toNat);
    let low := decide ((s.reg n).toNat % 2 = 1);
    (CodeOf (codeN 0x4020 n) (.shal n) ∧
      SetsRegisterAndT (.shal n) s n (BitVec.ofNat 32 (2 * (s.reg n).toNat)) high) ∧
    (CodeOf (codeN 0x4021 n) (.shar n) ∧
      SetsRegisterAndT (.shar n) s n (BitVec.ofInt 32 ((s.reg n).toInt / 2)) low) ∧
    (CodeOf (codeN 0x4000 n) (.shll n) ∧
      SetsRegisterAndT (.shll n) s n (BitVec.ofNat 32 (2 * (s.reg n).toNat)) high) ∧
    (CodeOf (codeN 0x4001 n) (.shlr n) ∧
      SetsRegisterAndT (.shlr n) s n (BitVec.ofNat 32 ((s.reg n).toNat / 2)) low) ∧
    (CodeOf (codeN 0x4008 n) (.shll2 n) ∧ SetsRegister (.shll2 n) s n (BitVec.ofNat 32 ((s.reg n).toNat * 2 ^ 2))) ∧
    (CodeOf (codeN 0x4018 n) (.shll8 n) ∧ SetsRegister (.shll8 n) s n (BitVec.ofNat 32 ((s.reg n).toNat * 2 ^ 8))) ∧
    (CodeOf (codeN 0x4028 n) (.shll16 n) ∧
      SetsRegister (.shll16 n) s n (BitVec.ofNat 32 ((s.reg n).toNat * 2 ^ 16))) ∧
    (CodeOf (codeN 0x4009 n) (.shlr2 n) ∧ SetsRegister (.shlr2 n) s n (BitVec.ofNat 32 ((s.reg n).toNat / 2 ^ 2))) ∧
    (CodeOf (codeN 0x4019 n) (.shlr8 n) ∧ SetsRegister (.shlr8 n) s n (BitVec.ofNat 32 ((s.reg n).toNat / 2 ^ 8))) ∧
    (CodeOf (codeN 0x4029 n) (.shlr16 n) ∧
      SetsRegister (.shlr16 n) s n (BitVec.ofNat 32 ((s.reg n).toNat / 2 ^ 16)))


/-! ### Branches -/

/-- BF and BT: taken, the instruction at the target is next; in a delay slot they are illegal (45_branch.md R303,
R305). -/
def Obligations.ConditionalBranches : Prop :=
  ∀ (disp : BitVec 8) (s : State),
    let target := s.pc + 4 + disp.signExtend 32 * 2;
    (CodeOf (codeImm 0x8B00 disp) (.bf disp) ∧ NotInSlot (.bf disp) s ∧
      (s.mayBranch → s.sr.t = false → Jumps (.bf disp) s target) ∧
      (s.mayBranch → s.sr.t = true → FallsThrough (.bf disp) s false)) ∧
    (CodeOf (codeImm 0x8900 disp) (.bt disp) ∧ NotInSlot (.bt disp) s ∧
      (s.mayBranch → s.sr.t = true → Jumps (.bt disp) s target) ∧
      (s.mayBranch → s.sr.t = false → FallsThrough (.bt disp) s false))

/-- BF/S and BT/S of the SH7600: taken, the slot instruction comes first (45_branch.md R304, R306); not taken, the
next instruction is executed, no interrupt being held off before it, and the model remembers the untaken branch: the
reading of R315 with decision D15, the choice of the spec (log 16). -/
def Obligations.DelayedConditionalBranches : Prop :=
  ∀ (disp : BitVec 8) (s : State),
    let target := s.pc + 4 + disp.signExtend 32 * 2;
    (CodeOf (codeImm 0x8F00 disp) (.bfS disp) ∧ NotInSlot (.bfS disp) s ∧ OnlySH7600 (.bfS disp) s ∧
      (s.mayBranch → s.params.series = .sh7600 →
        (s.sr.t = false → JumpsDelayed (.bfS disp) s target s.pr) ∧
        (s.sr.t = true → FallsThrough (.bfS disp) s true))) ∧
    (CodeOf (codeImm 0x8D00 disp) (.btS disp) ∧ NotInSlot (.btS disp) s ∧ OnlySH7600 (.btS disp) s ∧
      (s.mayBranch → s.params.series = .sh7600 →
        (s.sr.t = true → JumpsDelayed (.btS disp) s target s.pr) ∧
        (s.sr.t = false → FallsThrough (.btS disp) s true)))

/-- The unconditional branches: the destination, read before the slot instruction runs, and PR = a + 4 for the
subroutine calls; in a delay slot they are illegal, and BRAF and BSRF are the SH7600's (45_branch.md R307-R313). -/
def Obligations.UnconditionalBranches : Prop :=
  ∀ (n : Reg) (disp : BitVec 12) (s : State),
    (CodeOf (codeDisp12 0xA000 disp) (.bra disp) ∧ NotInSlot (.bra disp) s ∧
      (s.mayBranch → JumpsDelayed (.bra disp) s (s.pc + 4 + disp.signExtend 32 * 2) s.pr)) ∧
    (CodeOf (codeN 0x0023 n) (.braf n) ∧ NotInSlot (.braf n) s ∧ OnlySH7600 (.braf n) s ∧
      (s.mayBranch → s.params.series = .sh7600 → JumpsDelayed (.braf n) s (s.pc + 4 + s.reg n) s.pr)) ∧
    (CodeOf (codeDisp12 0xB000 disp) (.bsr disp) ∧ NotInSlot (.bsr disp) s ∧
      (s.mayBranch → JumpsDelayed (.bsr disp) s (s.pc + 4 + disp.signExtend 32 * 2) (s.pc + 4))) ∧
    (CodeOf (codeN 0x0003 n) (.bsrf n) ∧ NotInSlot (.bsrf n) s ∧ OnlySH7600 (.bsrf n) s ∧
      (s.mayBranch → s.params.series = .sh7600 → JumpsDelayed (.bsrf n) s (s.pc + 4 + s.reg n) (s.pc + 4))) ∧
    (CodeOf (codeN 0x402B n) (.jmp n) ∧ NotInSlot (.jmp n) s ∧
      (s.mayBranch → JumpsDelayed (.jmp n) s (s.reg n) s.pr)) ∧
    (CodeOf (codeN 0x400B n) (.jsr n) ∧ NotInSlot (.jsr n) s ∧
      (s.mayBranch → JumpsDelayed (.jsr n) s (s.reg n) (s.pc + 4))) ∧
    (CodeOf 0x000B .rts ∧ NotInSlot .rts s ∧ (s.mayBranch → JumpsDelayed .rts s s.pr s.pr))

/-- In a delay slot the thirteen instructions that rewrite the PC do not run: slot illegal instruction exception
processing is entered with the destination of the branch stacked, the spec's choice of the stacked value (45_branch.md
R301, 60_exceptions.md R406 (b), R419 with decision D16; log 11). -/
def Obligations.SlotIllegalInstructions : Prop :=
  ∀ (i : Instr) (s : State) (d : Word), i.rewritesPc = true → s.slot = some d →
    s.canEnter s.params.vecSlotIllegal →
    ∃ t, exec i s = .next t ∧ Entered s t s.params.vecSlotIllegal d s.sr.i

/-- Directly after a BF/S or BT/S that did not branch the same thirteen are refused, as the spec decides (45_branch.md
R315 (c) with decision D15; log 16). -/
def Obligations.DisputedInstructionsAreRefused : Prop :=
  ∀ (i : Instr) (s : State), i.rewritesPc = true → s.slot = none → s.afterUntaken = true →
    exec i s = .refused .disputedAfterUntaken

/-- On the SH7000 the nine instructions of the SH7600 are illegal: general illegal instruction exception processing
with the address of the code stacked, slot illegal in a delay slot, the stacked values being the spec's choice
(30_encoding.md R120, 60_exceptions.md R406, R419 with decision D16; log 11). -/
def Obligations.SH7600InstructionsOnTheSH7000 : Prop :=
  ∀ (i : Instr) (s : State), i.wellFormed s.params.series = false →
    (s.slot = none → s.afterUntaken = false → s.canEnter s.params.vecIllegal →
      ∃ t, exec i s = .next t ∧ Entered s t s.params.vecIllegal s.pc s.sr.i) ∧
    (∀ d, s.slot = some d → s.canEnter s.params.vecSlotIllegal →
      ∃ t, exec i s = .next t ∧ Entered s t s.params.vecSlotIllegal d s.sr.i)

/-- What the step fetches where no event comes first: a code assigned to no instruction is illegal in the same two
ways, and directly after an untaken BF/S or BT/S refused (decision D15, log 16); an odd `pc` and a device register are
an address error instead (30_encoding.md R121, 20_memory.md R67), and an unmapped address has no step (R75 with
decision D5; log 14). The stacked values are decision D16 (log 11, log 9); which entries of the environment leave the
boundary to the instruction is decision D3 and D19 (log 10, log 29). -/
def Obligations.UnassignedCodesAndOddAddresses : Prop :=
  ∀ s u : State, s.mode = .programExecution → s.idleAt u →
    (s.ordinary s.pc .word → decodeWord (s.byteAt s.pc ++ s.byteAt (s.pc + 1)) = none →
      (s.slot = none → s.afterUntaken = false → s.canEnter s.params.vecIllegal →
        ∃ t, step s = .next t ∧ Entered u t s.params.vecIllegal s.pc s.sr.i) ∧
      (s.slot = none → s.afterUntaken = true → step s = .refused .disputedAfterUntaken) ∧
      (∀ d, s.slot = some d → s.canEnter s.params.vecSlotIllegal →
        ∃ t, step s = .next t ∧ Entered u t s.params.vecSlotIllegal d s.sr.i)) ∧
    (s.pc.toNat % 2 = 1 ∨ s.deviceAt s.pc → step s = u.addressError) ∧
    (s.unmapped s.pc .word → step s = .fault .unmappedAccess)

/-! ### System control -/

/-- CLRT, SETT, NOP and CLRMAC (46_system_control.md R331, R332, R346, R348). -/
def Obligations.ClearsAndNop : Prop :=
  ∀ s : State,
    (CodeOf 0x0008 .clrt ∧ SetsT .clrt s false) ∧
    (CodeOf 0x0018 .sett ∧ SetsT .sett s true) ∧
    (CodeOf 0x0009 .nop ∧ ∃ t, exec .nop s = .next t ∧ t.sr = s.sr ∧ Frame s t [] [] ∧ Sequential s t false) ∧
    (CodeOf 0x0028 .clrmac ∧ ∃ t, exec .clrmac s = .next t ∧ t.sr = s.sr ∧
      Frame { s with mach := 0, macl := 0 } t [] [] ∧ Sequential s t false)

/-- LDC and LDS from a register: interrupts are held off at the next boundary (46_system_control.md R334-R336,
R340-R342). -/
def Obligations.LoadsOfControlAndSystemRegisters : Prop :=
  ∀ (m : Reg) (s : State),
    let mach := match s.params.series with
      | .sh7600 => s.reg m
      | .sh7000 => ((s.reg m).truncate 10).signExtend 32;
    (CodeOf (codeN 0x400E m) (.ldcSr m) ∧ ∃ t, exec (.ldcSr m) s = .next t ∧ t.sr.toWord = s.reg m &&& 0x3F3 ∧
      Frame s t [] [] ∧ Sequential s t true) ∧
    (CodeOf (codeN 0x401E m) (.ldcGbr m) ∧ ∃ t, exec (.ldcGbr m) s = .next t ∧ t.sr = s.sr ∧
      Frame { s with gbr := s.reg m } t [] [] ∧ Sequential s t true) ∧
    (CodeOf (codeN 0x402E m) (.ldcVbr m) ∧ ∃ t, exec (.ldcVbr m) s = .next t ∧ t.sr = s.sr ∧
      Frame { s with vbr := s.reg m } t [] [] ∧ Sequential s t true) ∧
    (CodeOf (codeN 0x400A m) (.ldsMach m) ∧ ∃ t, exec (.ldsMach m) s = .next t ∧ t.sr = s.sr ∧
      Frame { s with mach := mach } t [] [] ∧ Sequential s t true) ∧
    (CodeOf (codeN 0x401A m) (.ldsMacl m) ∧ ∃ t, exec (.ldsMacl m) s = .next t ∧ t.sr = s.sr ∧
      Frame { s with macl := s.reg m } t [] [] ∧ Sequential s t true) ∧
    (CodeOf (codeN 0x402A m) (.ldsPr m) ∧ ∃ t, exec (.ldsPr m) s = .next t ∧ t.sr = s.sr ∧
      Frame { s with pr := s.reg m } t [] [] ∧ Sequential s t true)

/-- LDC.L and LDS.L: the longword at Rm is loaded and Rm advances by 4; an address error leaves both registers
(46_system_control.md R337-R339, R343-R345). What a device register delivers (a free value, log 15) and that an
unmapped address has no step (log 14) are the choices of 20_memory.md R75 with D5. -/
def Obligations.LoadsOfControlAndSystemRegistersFromMemory : Prop :=
  ∀ (m : Reg) (s : State),
    let inc := fun (_ : Word) (t : State) => t.reg m = s.reg m + 4;
    (CodeOf (codeN 0x4007 m) (.ldcLSr m) ∧ Loads (.ldcLSr m) s (s.reg m) .long [m]
      (fun v t => t.reg m = s.reg m + 4 ∧ t.sr.toWord = v &&& 0x3F3)
      (fun v s => { s with sr := StatusReg.ofWord v }) true) ∧
    (CodeOf (codeN 0x4017 m) (.ldcLGbr m) ∧
      Loads (.ldcLGbr m) s (s.reg m) .long [m] inc (fun v s => { s with gbr := v }) true) ∧
    (CodeOf (codeN 0x4027 m) (.ldcLVbr m) ∧
      Loads (.ldcLVbr m) s (s.reg m) .long [m] inc (fun v s => { s with vbr := v }) true) ∧
    (CodeOf (codeN 0x4006 m) (.ldsLMach m) ∧
      Loads (.ldsLMach m) s (s.reg m) .long [m] inc (fun v s => { s with mach := match s.params.series with
        | .sh7600 => v
        | .sh7000 => (v.truncate 10).signExtend 32 }) true) ∧
    (CodeOf (codeN 0x4016 m) (.ldsLMacl m) ∧
      Loads (.ldsLMacl m) s (s.reg m) .long [m] inc (fun v s => { s with macl := v }) true) ∧
    (CodeOf (codeN 0x4026 m) (.ldsLPr m) ∧
      Loads (.ldsLPr m) s (s.reg m) .long [m] inc (fun v s => { s with pr := v }) true)

/-- STC and STS to a register (46_system_control.md R352-R354, R358-R360). -/
def Obligations.StoresOfControlAndSystemRegisters : Prop :=
  ∀ (n : Reg) (s : State),
    let sets := fun (i : Instr) (v : Word) =>
      ∃ t, exec i s = .next t ∧ t.reg n = v ∧ t.sr = s.sr ∧ Frame s t [n] [] ∧ Sequential s t true;
    (CodeOf (codeN 0x0002 n) (.stcSr n) ∧ sets (.stcSr n) ((bitWord s.sr.m <<< 9) ||| (bitWord s.sr.q <<< 8) |||
      (s.sr.i.zeroExtend 32 <<< 4) ||| (bitWord s.sr.s <<< 1) ||| bitWord s.sr.t)) ∧
    (CodeOf (codeN 0x0012 n) (.stcGbr n) ∧ sets (.stcGbr n) s.gbr) ∧
    (CodeOf (codeN 0x0022 n) (.stcVbr n) ∧ sets (.stcVbr n) s.vbr) ∧
    (CodeOf (codeN 0x000A n) (.stsMach n) ∧ sets (.stsMach n) (match s.params.series with
      | .sh7600 => s.mach
      | .sh7000 => (s.mach.truncate 10).signExtend 32)) ∧
    (CodeOf (codeN 0x001A n) (.stsMacl n) ∧ sets (.stsMacl n) s.macl) ∧
    (CodeOf (codeN 0x002A n) (.stsPr n) ∧ sets (.stsPr n) s.pr)

/-- STC.L and STS.L: Rn is decremented first, and stays so where the store is an address error (46_system_control.md
R355-R357, R361-R363; 20_memory.md R65 with decision D6, log 12). That a write to a device register is recorded for
the environment (log 15) and that an unmapped address has no step (log 14) are the choices of R75 with D5. -/
def Obligations.StoresOfControlAndSystemRegistersToMemory : Prop :=
  ∀ (n : Reg) (s : State),
    let stores := fun (i : Instr) (v : Word) => Stores i s (s.reg n - 4) .long v [n]
      (fun t => t.reg n = s.reg n - 4) (s.setReg n (s.reg n - 4)) true;
    (CodeOf (codeN 0x4003 n) (.stcLSr n) ∧ stores (.stcLSr n) ((bitWord s.sr.m <<< 9) ||| (bitWord s.sr.q <<< 8) |||
      (s.sr.i.zeroExtend 32 <<< 4) ||| (bitWord s.sr.s <<< 1) ||| bitWord s.sr.t)) ∧
    (CodeOf (codeN 0x4013 n) (.stcLGbr n) ∧ stores (.stcLGbr n) s.gbr) ∧
    (CodeOf (codeN 0x4023 n) (.stcLVbr n) ∧ stores (.stcLVbr n) s.vbr) ∧
    (CodeOf (codeN 0x4002 n) (.stsLMach n) ∧ stores (.stsLMach n) (match s.params.series with
      | .sh7600 => s.mach
      | .sh7000 => (s.mach.truncate 10).signExtend 32)) ∧
    (CodeOf (codeN 0x4012 n) (.stsLMacl n) ∧ stores (.stsLMacl n) s.macl) ∧
    (CodeOf (codeN 0x4022 n) (.stsLPr n) ∧ stores (.stsLPr n) s.pr)

/-- RTE: the PC is popped first and becomes the destination of a delayed branch, then SR, of which the bits of
H'000003F3 are kept; a misaligned stack is an address error with nothing changed, and in a delay slot it is illegal
(46_system_control.md R347). That an address error of the second pop leaves the first done is the choice of
20_memory.md R65 with D6 (log 12); what a device register delivers (a free value, log 15) and that an unmapped address
has no step (log 14) are those of R75 with D5. -/
def Obligations.ReturnFromException : Prop :=
  ∀ s : State, CodeOf 0x002B .rte ∧ NotInSlot .rte s ∧ (s.mayBranch →
    (s.ordinary (s.reg 15) .long ∨ s.device (s.reg 15) .long →
      s.ordinary (s.reg 15 + 4) .long ∨ s.device (s.reg 15 + 4) .long →
      ∃ target sr d e t, s.reads (s.reg 15) .long target d ∧ s.reads (s.reg 15 + 4) .long sr e ∧
        exec .rte s = .next t ∧ t.sr.toWord = sr &&& 0x3F3 ∧ t.reg 15 = s.reg 15 + 8 ∧ t.slot = some target ∧
        t.pc = s.pc + 2 ∧ t.inhibit = false ∧ t.afterUntaken = false ∧
        Frame { s with draws := s.draws + d + e } t [15] []) ∧
    (s.misaccess (s.reg 15) .long → exec .rte s = s.addressError) ∧
    (∀ d, s.ordinary (s.reg 15) .long ∧ d = 0 ∨ s.device (s.reg 15) .long ∧ d = 1 →
      s.misaccess (s.reg 15 + 4) .long →
      exec .rte s = (State.setReg { s with draws := s.draws + d } 15 (s.reg 15 + 4)).addressError) ∧
    (s.unmapped (s.reg 15) .long → exec .rte s = .fault .unmappedAccess) ∧
    (s.ordinary (s.reg 15) .long ∨ s.device (s.reg 15) .long → s.unmapped (s.reg 15 + 4) .long →
      exec .rte s = .fault .unmappedAccess))

/-- TRAPA: SR and the address of the next instruction are pushed, SR is unchanged, and control goes to the address the
vector holds; in a delay slot it is illegal (46_system_control.md R365, 60_exceptions.md R408). -/
def Obligations.Trap : Prop :=
  ∀ (imm : BitVec 8) (s : State), CodeOf (codeImm 0xC300 imm) (.trapa imm) ∧ NotInSlot (.trapa imm) s ∧
    (s.mayBranch → s.canEnter imm → ∃ t, exec (.trapa imm) s = .next t ∧ Entered s t imm (s.pc + 2) s.sr.i)

/-- SLEEP: standby mode where the SBY bit is set and the chip has a device register, else sleep mode
(46_system_control.md R349, 60_exceptions.md R434: with no devices SBY is 0); `pc` is where execution resumes,
decision D17 of the spec (log 17). -/
def Obligations.Sleep : Prop :=
  ∀ s : State, CodeOf 0x001B .sleep ∧ ∃ t, exec .sleep s = .next t ∧ t.sr = s.sr ∧
    (t.mode = .sleep ∨ t.mode = .standby) ∧ (t.mode = .standby ↔ s.sby = true ∧ ∃ a, s.deviceAt a) ∧
    Frame { s with mode := t.mode } t [] [] ∧ Sequential s t false

/-! ### Exceptions, interrupts and the processing states -/

/-- Taking an exception with the stack and the vector in ordinary memory: SR at the higher address, the PC at the
lower, the mask of an accepted interrupt set, control at the address the vector holds (60_exceptions.md R404, R405).
-/
def Obligations.ExceptionEntry : Prop :=
  ∀ (s : State) (v : BitVec 8) (spc : Word) (mask : Option (BitVec 4)), s.canEnter v →
    ∃ t, s.enterException v spc mask = .next t ∧ Entered s t v spc (mask.getD s.sr.i)

/-- Taking an exception with a misaligned stack, or a misaligned vector, is the end of the run: the spec gives it no
step (60_exceptions.md R409 with decision D18; log 13). -/
def Obligations.EntryWithMisalignedStackOrVectorStops : Prop :=
  ∀ (s : State) (v : BitVec 8) (spc : Word) (mask : Option (BitVec 4)),
    (s.misaccess (s.reg 15 - 4) .long → s.enterException v spc mask = .fault .addressErrorInEntry) ∧
    (s.ordinary (s.reg 15 - 4) .long → s.ordinary (s.reg 15 - 8) .long →
      s.misaccess (s.vbr + v.zeroExtend 32 * 4) .long →
      s.enterException v spc mask = .fault .addressErrorInEntry)

/-- CPU address error exception processing: entry by its vector with SR.I unchanged; which PC value is stacked is left
open (60_exceptions.md R407, R419 with decision D16; log 9). -/
def Obligations.AddressErrorEntry : Prop :=
  ∀ s : State, s.canEnter s.params.vecAddrErrCPU →
    ∃ t spc, s.addressError = .next t ∧
      Entered { s with draws := t.draws } t s.params.vecAddrErrCPU spc s.sr.i

/-- A DMA address error is taken at a boundary of program execution or of sleep mode, which it ends, before any
interrupt, with the next address stacked (60_exceptions.md R403, R407, R419, R435): where no branch is pending, no
interrupt-disabled instruction has just run and the instruction after an untaken BF/S or BT/S is not disputed
(45_branch.md R315). These conditions are decision D19 (log 29) and D15 (log 16), the order D2 (log 22), the address
stacked in sleep mode D17 (log 17). -/
def Obligations.DmaAddressErrorComesFirst : Prop :=
  ∀ (s : State) (e : EnvInput) (rest : List EnvInput), s.mode = .programExecution ∨ s.mode = .sleep → s.mayAccept →
    s.inputs = e :: rest → e.reset = none → e.busRequest = false → e.dmaError = true →
    s.canEnter s.params.vecAddrErrDMA →
    ∃ t, step s = .next t ∧ Entered (s.after e rest) t s.params.vecAddrErrDMA s.pc s.sr.i

/-- The highest request, the first of the environment's list among equals, is accepted in program execution and in
sleep mode when its level is above SR.I, NMI always: by its vector, with the next address stacked and SR.I raised to
its level, 15 for NMI (60_exceptions.md R403, R410, R411, R419, R435). This is where no branch is pending (`slot`), no
interrupt-disabled instruction has just run (`inhibit`) and the instruction after an untaken BF/S or BT/S is not
disputed (R412, 45_branch.md R315 (b); decision D15, log 16). The comparison and the new mask are the spec's decision
D3 from general knowledge (log 10); the choice among equals is D2 (log 22), the address stacked in sleep mode D17 (log
17). -/
def Obligations.InterruptAcceptance : Prop :=
  ∀ (s : State) (e : EnvInput) (rest : List EnvInput) (q : Request) (before later : List Request),
    s.mode = .programExecution ∨ s.mode = .sleep → s.mayAccept → s.inputs = e :: rest →
    e.reset = none → e.busRequest = false → e.dmaError = false → e.requests = before ++ q :: later →
    (∀ q' ∈ before, q'.level < q.level) → (∀ q' ∈ later, q'.level ≤ q.level) → s.sr.i.toNat < q.level →
    s.canEnter (q.vector s.params) →
    ∃ t, step s = .next t ∧
      Entered (s.after e rest) t (q.vector s.params) s.pc (BitVec.ofNat 4 (min q.level 15))

/-- In sleep mode, where no reset, bus request or DMA address error comes and no request passes the mask, nothing
changes but that the environment's entry is consumed (60_exceptions.md R435; that a masked request does not wake is
decision D20; log 17). -/
def Obligations.SleepLastsUntilAnAcceptableEvent : Prop :=
  ∀ (s : State) (e : EnvInput) (rest : List EnvInput), s.mode = .sleep →
    (s.inputs = [] → step s = .next s) ∧
    (s.inputs = e :: rest → e.reset = none → e.busRequest = false → e.dmaError = false →
      (∀ q ∈ e.requests, q.level ≤ s.sr.i.toNat) → step s = .next (s.after e rest))

/-- In standby mode only a reset or NMI ends the halt: NMI is accepted whatever else is requested, and without NMI
nothing changes (60_exceptions.md R436). The new mask is decision D3 (R411, log 10); that the waking NMI stacks the
next address is D17 (R419, log 17); that a DMA address error and a bus request have no effect in standby is the
model's choice (log 29, log 23). -/
def Obligations.OnlyNmiOrResetEndsStandby : Prop :=
  ∀ (s : State) (e : EnvInput) (rest : List EnvInput), s.mode = .standby → s.inputs = e :: rest → e.reset = none →
    (Request.nmi ∉ e.requests → step s = .next (s.after e rest)) ∧
    (Request.nmi ∈ e.requests → s.quiescent → s.canEnter s.params.vecNMI →
      ∃ t, step s = .next t ∧ Entered (s.after e rest) t s.params.vecNMI s.pc 15)

/-- A reset request, from any state and before anything else: VBR 0, SR.I 1111, no pending branch, PC and R15 from two
entries of the vector table (70_reset_and_hazards.md R450; 60_exceptions.md R431). That the table is at address 0 is
an inference R450 marks as derived; that memory stays as it was is R452's, with decision D5; that the SBY bit stays as
the environment presents it is the model's choice (log 34). -/
def Obligations.ResetFromAnyState : Prop :=
  ∀ (s : State) (e : EnvInput) (rest : List EnvInput) (kind : ResetKind), s.inputs = e :: rest →
    e.reset = some kind →
    let pcEntry := ((match kind with
      | .powerOn => s.params.vecPowerOnPC
      | .manual => s.params.vecManualPC).zeroExtend 32 : Word) * 4;
    let spEntry := ((match kind with
      | .powerOn => s.params.vecPowerOnSP
      | .manual => s.params.vecManualSP).zeroExtend 32 : Word) * 4;
    s.ordinary pcEntry .long → s.ordinary spEntry .long →
    ∃ t, step s = .next t ∧ t.vbr = 0 ∧ t.sr.i = 0xF ∧ t.slot = none ∧ t.inhibit = false ∧ t.afterUntaken = false ∧
      t.pc = s.longAt pcEntry ∧ t.reg 15 = s.longAt spEntry ∧ t.mode = .programExecution ∧
      (∀ a, t.byteAt a = s.byteAt a) ∧ t.params = s.params ∧ t.inputs = rest ∧ t.sby = e.sby.getD s.sby ∧
      t.deviceWrites = s.deviceWrites

/-- The first step out of the reset state loads PC and R15 from the vector table and starts the program; every other
register keeps the value it has in that state, a choice of the model for the ones the manual leaves undefined
(70_reset_and_hazards.md R450; log 6, log 7). That the table is at address 0 is an inference R450 marks as derived,
and that memory stays as it was is R452's. -/
def Obligations.FirstStepAfterReset : Prop :=
  ∀ (s : State) (kind : ResetKind), s.mode = .reset kind → s.vbr = 0 → s.inputs = [] →
    let pcEntry := ((match kind with
      | .powerOn => s.params.vecPowerOnPC
      | .manual => s.params.vecManualPC).zeroExtend 32 : Word) * 4;
    let spEntry := ((match kind with
      | .powerOn => s.params.vecPowerOnSP
      | .manual => s.params.vecManualSP).zeroExtend 32 : Word) * 4;
    s.ordinary pcEntry .long → s.ordinary spEntry .long →
    ∃ t, step s = .next t ∧ t.pc = s.longAt pcEntry ∧ t.reg 15 = s.longAt spEntry ∧ t.sr = s.sr ∧ t.slot = none ∧
      t.inhibit = false ∧ t.afterUntaken = false ∧ Frame { s with mode := .programExecution } t [15] []

/-- A bus request pauses the CPU: program execution and sleep mode give way to the bus release state and come back to
where they were, and meanwhile the bytes the other device writes take the values it writes, the last where there are
several, and nothing else changes (60_exceptions.md R437). That the request comes before a DMA address error and the
interrupts is the model's choice (log 22), and so is that it is answered at boundaries, with the writes the
environment's entry lists (log 23). -/
def Obligations.BusReleaseIsAPause : Prop :=
  ∀ (s : State) (e : EnvInput) (rest : List EnvInput), s.inputs = e :: rest → e.reset = none →
    let writes := e.busWrites.map fun w => w.1;
    (∀ asleep, (s.mode = .programExecution ∧ asleep = false ∨ s.mode = .sleep ∧ asleep = true ∨
        s.mode = .busRelease asleep) → e.busRequest = true →
      ∃ t, step s = .next t ∧ t.sr = s.sr ∧ t.pc = s.pc ∧ t.slot = s.slot ∧ t.inhibit = s.inhibit ∧
        t.afterUntaken = s.afterUntaken ∧
        (∀ a, t.byteAt a = e.busWrites.foldl (fun v w => if w.1 = a then w.2 else v) (s.byteAt a)) ∧
        Frame { s.after e rest with mode := .busRelease asleep } t [] writes) ∧
    (∀ asleep, s.mode = .busRelease asleep → e.busRequest = false →
      step s = .next { s.after e rest with mode := if asleep then .sleep else .programExecution })
end

