-- ==== Sys2Proof/Laws/Encoding.lean ====
section
/-! SUPPORT. Codes and their nibbles: what the decoder reads off a code the encoder builds. -/

namespace Sys2Proof

@[simp] theorem nibble3_ofNibbles (a b c d : Nibble) : nibble3 (ofNibbles a b c d) = a := by
  ext i hi
  simp only [nibble3, ofNibbles, BitVec.getElem_extractLsb', BitVec.getLsbD_append]
  split_ifs <;> first | omega | (rw [← BitVec.getLsbD_eq_getElem hi]; congr 1; omega)

@[simp] theorem nibble2_ofNibbles (a b c d : Nibble) : nibble2 (ofNibbles a b c d) = b := by
  ext i hi
  simp only [nibble2, ofNibbles, BitVec.getElem_extractLsb', BitVec.getLsbD_append]
  split_ifs <;> first | omega | (rw [← BitVec.getLsbD_eq_getElem hi]; congr 1; omega)

@[simp] theorem nibble1_ofNibbles (a b c d : Nibble) : nibble1 (ofNibbles a b c d) = c := by
  ext i hi
  simp only [nibble1, ofNibbles, BitVec.getElem_extractLsb', BitVec.getLsbD_append]
  split_ifs <;> first | omega | (rw [← BitVec.getLsbD_eq_getElem hi]; congr 1; omega)

@[simp] theorem nibble0_ofNibbles (a b c d : Nibble) : nibble0 (ofNibbles a b c d) = d := by
  ext i hi
  simp only [nibble0, ofNibbles, BitVec.getElem_extractLsb', BitVec.getLsbD_append]
  split_ifs <;> first | omega | (rw [← BitVec.getLsbD_eq_getElem hi]; congr 1; omega)

/-- The decoder sees the four nibbles of a code. -/
theorem decodeWord_ofNibbles (a b c d : Nibble) : decodeWord (ofNibbles a b c d) = decodeNibbles a b c d := by
  simp [decodeWord]

/-- A code is its four nibbles. -/
theorem ofNibbles_nibbles (w : Code) : ofNibbles (nibble3 w) (nibble2 w) (nibble1 w) (nibble0 w) = w := by
  apply BitVec.eq_of_getLsbD_eq
  intro i hi
  simp only [ofNibbles, nibble3, nibble2, nibble1, nibble0, BitVec.getLsbD_append, BitVec.getLsbD_extractLsb']
  split_ifs <;> (rw [decide_eq_true (by omega), Bool.true_and]; congr 1; omega)

/-- The bitwise and of two codes, nibble by nibble. -/
theorem and_ofNibbles (a b c d a' b' c' d' : Nibble) :
    ofNibbles a b c d &&& ofNibbles a' b' c' d' = ofNibbles (a &&& a') (b &&& b') (c &&& c') (d &&& d') := by
  apply BitVec.eq_of_getLsbD_eq
  intro i hi
  simp only [ofNibbles, BitVec.getLsbD_and, BitVec.getLsbD_append]
  split_ifs <;> simp

/-- An 8-bit field is its two nibbles. -/
@[simp] theorem field8_nibbles (v : BitVec 8) : field8 (hiNibble v) (loNibble v) = v := by
  apply BitVec.eq_of_getLsbD_eq
  intro i hi
  simp only [field8, hiNibble, loNibble, BitVec.getLsbD_append, BitVec.getLsbD_extractLsb']
  split_ifs <;> (rw [decide_eq_true (by omega), Bool.true_and]; congr 1; omega)

@[simp] theorem hiNibble_field8 (c d : Nibble) : hiNibble (field8 c d) = c := by
  ext i hi
  simp only [field8, hiNibble, BitVec.getElem_extractLsb', BitVec.getLsbD_append]
  split_ifs <;> first | omega | (rw [← BitVec.getLsbD_eq_getElem hi]; congr 1; omega)

@[simp] theorem loNibble_field8 (c d : Nibble) : loNibble (field8 c d) = d := by
  ext i hi
  simp only [field8, loNibble, BitVec.getElem_extractLsb', BitVec.getLsbD_append]
  split_ifs <;> first | omega | (rw [← BitVec.getLsbD_eq_getElem hi]; congr 1; omega)

/-- A 12-bit field is its three nibbles. -/
@[simp] theorem field12_nibbles (v : BitVec 12) : field12 (nibble12 2 v) (nibble12 1 v) (nibble12 0 v) = v := by
  apply BitVec.eq_of_getLsbD_eq
  intro i hi
  simp only [field12, nibble12, BitVec.getLsbD_append, BitVec.getLsbD_extractLsb']
  split_ifs <;> (rw [decide_eq_true (by omega), Bool.true_and]; congr 1; omega)

/-- The two bytes of a code make the code. -/
theorem bytes_of_code (w : Code) : w.extractLsb' 8 8 ++ w.extractLsb' 0 8 = w := by
  ext i hi
  simp only [BitVec.getElem_append, BitVec.getElem_extractLsb']
  split_ifs <;> rw [← BitVec.getLsbD_eq_getElem hi] <;> congr 1 <;> omega

end Sys2Proof
end

