-- ==== Sys2Proof/Laws/State.lean ====
section
/-! SUPPORT. One lemma for each field under each update of the state, and what the reads of a register, of a byte and of the
PC see through an update, so that no proof unfolds a record update. -/

namespace Sys2Proof.Machine

/-! ### `State.setReg` -/

@[simp] theorem State.setReg_r (s : State) (n : Reg) (v : Word) : (s.setReg n v).r = s.r.set n.toNat v n.isLt := rfl
@[simp] theorem State.setReg_sr (s : State) (n : Reg) (v : Word) : (s.setReg n v).sr = s.sr := rfl
@[simp] theorem State.setReg_gbr (s : State) (n : Reg) (v : Word) : (s.setReg n v).gbr = s.gbr := rfl
@[simp] theorem State.setReg_vbr (s : State) (n : Reg) (v : Word) : (s.setReg n v).vbr = s.vbr := rfl
@[simp] theorem State.setReg_mach (s : State) (n : Reg) (v : Word) : (s.setReg n v).mach = s.mach := rfl
@[simp] theorem State.setReg_macl (s : State) (n : Reg) (v : Word) : (s.setReg n v).macl = s.macl := rfl
@[simp] theorem State.setReg_pr (s : State) (n : Reg) (v : Word) : (s.setReg n v).pr = s.pr := rfl
@[simp] theorem State.setReg_pc (s : State) (n : Reg) (v : Word) : (s.setReg n v).pc = s.pc := rfl
@[simp] theorem State.setReg_slot (s : State) (n : Reg) (v : Word) : (s.setReg n v).slot = s.slot := rfl
@[simp] theorem State.setReg_inhibit (s : State) (n : Reg) (v : Word) : (s.setReg n v).inhibit = s.inhibit := rfl
@[simp] theorem State.setReg_afterUntaken (s : State) (n : Reg) (v : Word) : (s.setReg n v).afterUntaken = s.afterUntaken := rfl
@[simp] theorem State.setReg_mode (s : State) (n : Reg) (v : Word) : (s.setReg n v).mode = s.mode := rfl
@[simp] theorem State.setReg_mem (s : State) (n : Reg) (v : Word) : (s.setReg n v).mem = s.mem := rfl
@[simp] theorem State.setReg_params (s : State) (n : Reg) (v : Word) : (s.setReg n v).params = s.params := rfl
@[simp] theorem State.setReg_inputs (s : State) (n : Reg) (v : Word) : (s.setReg n v).inputs = s.inputs := rfl
@[simp] theorem State.setReg_sby (s : State) (n : Reg) (v : Word) : (s.setReg n v).sby = s.sby := rfl
@[simp] theorem State.setReg_deviceWrites (s : State) (n : Reg) (v : Word) : (s.setReg n v).deviceWrites = s.deviceWrites := rfl
@[simp] theorem State.setReg_draws (s : State) (n : Reg) (v : Word) : (s.setReg n v).draws = s.draws := rfl
@[simp] theorem State.setReg_byteAt (s : State) (n : Reg) (v : Word) (x : Word) : (s.setReg n v).byteAt x = s.byteAt x := rfl
@[simp] theorem State.setReg_nextPc (s : State) (n : Reg) (v : Word) : (s.setReg n v).nextPc = s.nextPc := rfl
@[simp] theorem State.setReg_pcValue (s : State) (n : Reg) (v : Word) : (s.setReg n v).pcValue = s.pcValue := rfl
@[simp] theorem State.setReg_region (s : State) (n : Reg) (v : Word) (x : Word) : (s.setReg n v).region x = s.region x := rfl

/-! ### `State.setT` -/

@[simp] theorem State.setT_r (s : State) (t : Bool) : (s.setT t).r = s.r := rfl
@[simp] theorem State.setT_sr (s : State) (t : Bool) : (s.setT t).sr = { s.sr with t := t } := rfl
@[simp] theorem State.setT_gbr (s : State) (t : Bool) : (s.setT t).gbr = s.gbr := rfl
@[simp] theorem State.setT_vbr (s : State) (t : Bool) : (s.setT t).vbr = s.vbr := rfl
@[simp] theorem State.setT_mach (s : State) (t : Bool) : (s.setT t).mach = s.mach := rfl
@[simp] theorem State.setT_macl (s : State) (t : Bool) : (s.setT t).macl = s.macl := rfl
@[simp] theorem State.setT_pr (s : State) (t : Bool) : (s.setT t).pr = s.pr := rfl
@[simp] theorem State.setT_pc (s : State) (t : Bool) : (s.setT t).pc = s.pc := rfl
@[simp] theorem State.setT_slot (s : State) (t : Bool) : (s.setT t).slot = s.slot := rfl
@[simp] theorem State.setT_inhibit (s : State) (t : Bool) : (s.setT t).inhibit = s.inhibit := rfl
@[simp] theorem State.setT_afterUntaken (s : State) (t : Bool) : (s.setT t).afterUntaken = s.afterUntaken := rfl
@[simp] theorem State.setT_mode (s : State) (t : Bool) : (s.setT t).mode = s.mode := rfl
@[simp] theorem State.setT_mem (s : State) (t : Bool) : (s.setT t).mem = s.mem := rfl
@[simp] theorem State.setT_params (s : State) (t : Bool) : (s.setT t).params = s.params := rfl
@[simp] theorem State.setT_inputs (s : State) (t : Bool) : (s.setT t).inputs = s.inputs := rfl
@[simp] theorem State.setT_sby (s : State) (t : Bool) : (s.setT t).sby = s.sby := rfl
@[simp] theorem State.setT_deviceWrites (s : State) (t : Bool) : (s.setT t).deviceWrites = s.deviceWrites := rfl
@[simp] theorem State.setT_draws (s : State) (t : Bool) : (s.setT t).draws = s.draws := rfl
@[simp] theorem State.setT_byteAt (s : State) (t : Bool) (x : Word) : (s.setT t).byteAt x = s.byteAt x := rfl
@[simp] theorem State.setT_reg (s : State) (t : Bool) (k : Reg) : (s.setT t).reg k = s.reg k := rfl
@[simp] theorem State.setT_nextPc (s : State) (t : Bool) : (s.setT t).nextPc = s.nextPc := rfl
@[simp] theorem State.setT_pcValue (s : State) (t : Bool) : (s.setT t).pcValue = s.pcValue := rfl
@[simp] theorem State.setT_region (s : State) (t : Bool) (x : Word) : (s.setT t).region x = s.region x := rfl

/-! ### `State.setQT` -/

@[simp] theorem State.setQT_r (s : State) (q t : Bool) : (s.setQT q t).r = s.r := rfl
@[simp] theorem State.setQT_sr (s : State) (q t : Bool) : (s.setQT q t).sr = { s.sr with q := q, t := t } := rfl
@[simp] theorem State.setQT_gbr (s : State) (q t : Bool) : (s.setQT q t).gbr = s.gbr := rfl
@[simp] theorem State.setQT_vbr (s : State) (q t : Bool) : (s.setQT q t).vbr = s.vbr := rfl
@[simp] theorem State.setQT_mach (s : State) (q t : Bool) : (s.setQT q t).mach = s.mach := rfl
@[simp] theorem State.setQT_macl (s : State) (q t : Bool) : (s.setQT q t).macl = s.macl := rfl
@[simp] theorem State.setQT_pr (s : State) (q t : Bool) : (s.setQT q t).pr = s.pr := rfl
@[simp] theorem State.setQT_pc (s : State) (q t : Bool) : (s.setQT q t).pc = s.pc := rfl
@[simp] theorem State.setQT_slot (s : State) (q t : Bool) : (s.setQT q t).slot = s.slot := rfl
@[simp] theorem State.setQT_inhibit (s : State) (q t : Bool) : (s.setQT q t).inhibit = s.inhibit := rfl
@[simp] theorem State.setQT_afterUntaken (s : State) (q t : Bool) : (s.setQT q t).afterUntaken = s.afterUntaken := rfl
@[simp] theorem State.setQT_mode (s : State) (q t : Bool) : (s.setQT q t).mode = s.mode := rfl
@[simp] theorem State.setQT_mem (s : State) (q t : Bool) : (s.setQT q t).mem = s.mem := rfl
@[simp] theorem State.setQT_params (s : State) (q t : Bool) : (s.setQT q t).params = s.params := rfl
@[simp] theorem State.setQT_inputs (s : State) (q t : Bool) : (s.setQT q t).inputs = s.inputs := rfl
@[simp] theorem State.setQT_sby (s : State) (q t : Bool) : (s.setQT q t).sby = s.sby := rfl
@[simp] theorem State.setQT_deviceWrites (s : State) (q t : Bool) : (s.setQT q t).deviceWrites = s.deviceWrites := rfl
@[simp] theorem State.setQT_draws (s : State) (q t : Bool) : (s.setQT q t).draws = s.draws := rfl
@[simp] theorem State.setQT_byteAt (s : State) (q t : Bool) (x : Word) : (s.setQT q t).byteAt x = s.byteAt x := rfl
@[simp] theorem State.setQT_reg (s : State) (q t : Bool) (k : Reg) : (s.setQT q t).reg k = s.reg k := rfl
@[simp] theorem State.setQT_nextPc (s : State) (q t : Bool) : (s.setQT q t).nextPc = s.nextPc := rfl
@[simp] theorem State.setQT_pcValue (s : State) (q t : Bool) : (s.setQT q t).pcValue = s.pcValue := rfl
@[simp] theorem State.setQT_region (s : State) (q t : Bool) (x : Word) : (s.setQT q t).region x = s.region x := rfl

/-! ### `State.setMQT` -/

@[simp] theorem State.setMQT_r (s : State) (m q t : Bool) : (s.setMQT m q t).r = s.r := rfl
@[simp] theorem State.setMQT_sr (s : State) (m q t : Bool) : (s.setMQT m q t).sr = { s.sr with m := m, q := q, t := t } := rfl
@[simp] theorem State.setMQT_gbr (s : State) (m q t : Bool) : (s.setMQT m q t).gbr = s.gbr := rfl
@[simp] theorem State.setMQT_vbr (s : State) (m q t : Bool) : (s.setMQT m q t).vbr = s.vbr := rfl
@[simp] theorem State.setMQT_mach (s : State) (m q t : Bool) : (s.setMQT m q t).mach = s.mach := rfl
@[simp] theorem State.setMQT_macl (s : State) (m q t : Bool) : (s.setMQT m q t).macl = s.macl := rfl
@[simp] theorem State.setMQT_pr (s : State) (m q t : Bool) : (s.setMQT m q t).pr = s.pr := rfl
@[simp] theorem State.setMQT_pc (s : State) (m q t : Bool) : (s.setMQT m q t).pc = s.pc := rfl
@[simp] theorem State.setMQT_slot (s : State) (m q t : Bool) : (s.setMQT m q t).slot = s.slot := rfl
@[simp] theorem State.setMQT_inhibit (s : State) (m q t : Bool) : (s.setMQT m q t).inhibit = s.inhibit := rfl
@[simp] theorem State.setMQT_afterUntaken (s : State) (m q t : Bool) : (s.setMQT m q t).afterUntaken = s.afterUntaken := rfl
@[simp] theorem State.setMQT_mode (s : State) (m q t : Bool) : (s.setMQT m q t).mode = s.mode := rfl
@[simp] theorem State.setMQT_mem (s : State) (m q t : Bool) : (s.setMQT m q t).mem = s.mem := rfl
@[simp] theorem State.setMQT_params (s : State) (m q t : Bool) : (s.setMQT m q t).params = s.params := rfl
@[simp] theorem State.setMQT_inputs (s : State) (m q t : Bool) : (s.setMQT m q t).inputs = s.inputs := rfl
@[simp] theorem State.setMQT_sby (s : State) (m q t : Bool) : (s.setMQT m q t).sby = s.sby := rfl
@[simp] theorem State.setMQT_deviceWrites (s : State) (m q t : Bool) : (s.setMQT m q t).deviceWrites = s.deviceWrites := rfl
@[simp] theorem State.setMQT_draws (s : State) (m q t : Bool) : (s.setMQT m q t).draws = s.draws := rfl
@[simp] theorem State.setMQT_byteAt (s : State) (m q t : Bool) (x : Word) : (s.setMQT m q t).byteAt x = s.byteAt x := rfl
@[simp] theorem State.setMQT_reg (s : State) (m q t : Bool) (k : Reg) : (s.setMQT m q t).reg k = s.reg k := rfl
@[simp] theorem State.setMQT_nextPc (s : State) (m q t : Bool) : (s.setMQT m q t).nextPc = s.nextPc := rfl
@[simp] theorem State.setMQT_pcValue (s : State) (m q t : Bool) : (s.setMQT m q t).pcValue = s.pcValue := rfl
@[simp] theorem State.setMQT_region (s : State) (m q t : Bool) (x : Word) : (s.setMQT m q t).region x = s.region x := rfl

/-! ### `State.setSr` -/

@[simp] theorem State.setSr_r (s : State) (v : Word) : (s.setSr v).r = s.r := rfl
@[simp] theorem State.setSr_sr (s : State) (v : Word) : (s.setSr v).sr = StatusReg.ofWord v := rfl
@[simp] theorem State.setSr_gbr (s : State) (v : Word) : (s.setSr v).gbr = s.gbr := rfl
@[simp] theorem State.setSr_vbr (s : State) (v : Word) : (s.setSr v).vbr = s.vbr := rfl
@[simp] theorem State.setSr_mach (s : State) (v : Word) : (s.setSr v).mach = s.mach := rfl
@[simp] theorem State.setSr_macl (s : State) (v : Word) : (s.setSr v).macl = s.macl := rfl
@[simp] theorem State.setSr_pr (s : State) (v : Word) : (s.setSr v).pr = s.pr := rfl
@[simp] theorem State.setSr_pc (s : State) (v : Word) : (s.setSr v).pc = s.pc := rfl
@[simp] theorem State.setSr_slot (s : State) (v : Word) : (s.setSr v).slot = s.slot := rfl
@[simp] theorem State.setSr_inhibit (s : State) (v : Word) : (s.setSr v).inhibit = s.inhibit := rfl
@[simp] theorem State.setSr_afterUntaken (s : State) (v : Word) : (s.setSr v).afterUntaken = s.afterUntaken := rfl
@[simp] theorem State.setSr_mode (s : State) (v : Word) : (s.setSr v).mode = s.mode := rfl
@[simp] theorem State.setSr_mem (s : State) (v : Word) : (s.setSr v).mem = s.mem := rfl
@[simp] theorem State.setSr_params (s : State) (v : Word) : (s.setSr v).params = s.params := rfl
@[simp] theorem State.setSr_inputs (s : State) (v : Word) : (s.setSr v).inputs = s.inputs := rfl
@[simp] theorem State.setSr_sby (s : State) (v : Word) : (s.setSr v).sby = s.sby := rfl
@[simp] theorem State.setSr_deviceWrites (s : State) (v : Word) : (s.setSr v).deviceWrites = s.deviceWrites := rfl
@[simp] theorem State.setSr_draws (s : State) (v : Word) : (s.setSr v).draws = s.draws := rfl
@[simp] theorem State.setSr_byteAt (s : State) (v : Word) (x : Word) : (s.setSr v).byteAt x = s.byteAt x := rfl
@[simp] theorem State.setSr_reg (s : State) (v : Word) (k : Reg) : (s.setSr v).reg k = s.reg k := rfl
@[simp] theorem State.setSr_nextPc (s : State) (v : Word) : (s.setSr v).nextPc = s.nextPc := rfl
@[simp] theorem State.setSr_pcValue (s : State) (v : Word) : (s.setSr v).pcValue = s.pcValue := rfl
@[simp] theorem State.setSr_region (s : State) (v : Word) (x : Word) : (s.setSr v).region x = s.region x := rfl

/-! ### `State.setGbr` -/

@[simp] theorem State.setGbr_r (s : State) (v : Word) : (s.setGbr v).r = s.r := rfl
@[simp] theorem State.setGbr_sr (s : State) (v : Word) : (s.setGbr v).sr = s.sr := rfl
@[simp] theorem State.setGbr_gbr (s : State) (v : Word) : (s.setGbr v).gbr = v := rfl
@[simp] theorem State.setGbr_vbr (s : State) (v : Word) : (s.setGbr v).vbr = s.vbr := rfl
@[simp] theorem State.setGbr_mach (s : State) (v : Word) : (s.setGbr v).mach = s.mach := rfl
@[simp] theorem State.setGbr_macl (s : State) (v : Word) : (s.setGbr v).macl = s.macl := rfl
@[simp] theorem State.setGbr_pr (s : State) (v : Word) : (s.setGbr v).pr = s.pr := rfl
@[simp] theorem State.setGbr_pc (s : State) (v : Word) : (s.setGbr v).pc = s.pc := rfl
@[simp] theorem State.setGbr_slot (s : State) (v : Word) : (s.setGbr v).slot = s.slot := rfl
@[simp] theorem State.setGbr_inhibit (s : State) (v : Word) : (s.setGbr v).inhibit = s.inhibit := rfl
@[simp] theorem State.setGbr_afterUntaken (s : State) (v : Word) : (s.setGbr v).afterUntaken = s.afterUntaken := rfl
@[simp] theorem State.setGbr_mode (s : State) (v : Word) : (s.setGbr v).mode = s.mode := rfl
@[simp] theorem State.setGbr_mem (s : State) (v : Word) : (s.setGbr v).mem = s.mem := rfl
@[simp] theorem State.setGbr_params (s : State) (v : Word) : (s.setGbr v).params = s.params := rfl
@[simp] theorem State.setGbr_inputs (s : State) (v : Word) : (s.setGbr v).inputs = s.inputs := rfl
@[simp] theorem State.setGbr_sby (s : State) (v : Word) : (s.setGbr v).sby = s.sby := rfl
@[simp] theorem State.setGbr_deviceWrites (s : State) (v : Word) : (s.setGbr v).deviceWrites = s.deviceWrites := rfl
@[simp] theorem State.setGbr_draws (s : State) (v : Word) : (s.setGbr v).draws = s.draws := rfl
@[simp] theorem State.setGbr_byteAt (s : State) (v : Word) (x : Word) : (s.setGbr v).byteAt x = s.byteAt x := rfl
@[simp] theorem State.setGbr_reg (s : State) (v : Word) (k : Reg) : (s.setGbr v).reg k = s.reg k := rfl
@[simp] theorem State.setGbr_nextPc (s : State) (v : Word) : (s.setGbr v).nextPc = s.nextPc := rfl
@[simp] theorem State.setGbr_pcValue (s : State) (v : Word) : (s.setGbr v).pcValue = s.pcValue := rfl
@[simp] theorem State.setGbr_region (s : State) (v : Word) (x : Word) : (s.setGbr v).region x = s.region x := rfl

/-! ### `State.setVbr` -/

@[simp] theorem State.setVbr_r (s : State) (v : Word) : (s.setVbr v).r = s.r := rfl
@[simp] theorem State.setVbr_sr (s : State) (v : Word) : (s.setVbr v).sr = s.sr := rfl
@[simp] theorem State.setVbr_gbr (s : State) (v : Word) : (s.setVbr v).gbr = s.gbr := rfl
@[simp] theorem State.setVbr_vbr (s : State) (v : Word) : (s.setVbr v).vbr = v := rfl
@[simp] theorem State.setVbr_mach (s : State) (v : Word) : (s.setVbr v).mach = s.mach := rfl
@[simp] theorem State.setVbr_macl (s : State) (v : Word) : (s.setVbr v).macl = s.macl := rfl
@[simp] theorem State.setVbr_pr (s : State) (v : Word) : (s.setVbr v).pr = s.pr := rfl
@[simp] theorem State.setVbr_pc (s : State) (v : Word) : (s.setVbr v).pc = s.pc := rfl
@[simp] theorem State.setVbr_slot (s : State) (v : Word) : (s.setVbr v).slot = s.slot := rfl
@[simp] theorem State.setVbr_inhibit (s : State) (v : Word) : (s.setVbr v).inhibit = s.inhibit := rfl
@[simp] theorem State.setVbr_afterUntaken (s : State) (v : Word) : (s.setVbr v).afterUntaken = s.afterUntaken := rfl
@[simp] theorem State.setVbr_mode (s : State) (v : Word) : (s.setVbr v).mode = s.mode := rfl
@[simp] theorem State.setVbr_mem (s : State) (v : Word) : (s.setVbr v).mem = s.mem := rfl
@[simp] theorem State.setVbr_params (s : State) (v : Word) : (s.setVbr v).params = s.params := rfl
@[simp] theorem State.setVbr_inputs (s : State) (v : Word) : (s.setVbr v).inputs = s.inputs := rfl
@[simp] theorem State.setVbr_sby (s : State) (v : Word) : (s.setVbr v).sby = s.sby := rfl
@[simp] theorem State.setVbr_deviceWrites (s : State) (v : Word) : (s.setVbr v).deviceWrites = s.deviceWrites := rfl
@[simp] theorem State.setVbr_draws (s : State) (v : Word) : (s.setVbr v).draws = s.draws := rfl
@[simp] theorem State.setVbr_byteAt (s : State) (v : Word) (x : Word) : (s.setVbr v).byteAt x = s.byteAt x := rfl
@[simp] theorem State.setVbr_reg (s : State) (v : Word) (k : Reg) : (s.setVbr v).reg k = s.reg k := rfl
@[simp] theorem State.setVbr_nextPc (s : State) (v : Word) : (s.setVbr v).nextPc = s.nextPc := rfl
@[simp] theorem State.setVbr_pcValue (s : State) (v : Word) : (s.setVbr v).pcValue = s.pcValue := rfl
@[simp] theorem State.setVbr_region (s : State) (v : Word) (x : Word) : (s.setVbr v).region x = s.region x := rfl

/-! ### `State.setPr` -/

@[simp] theorem State.setPr_r (s : State) (v : Word) : (s.setPr v).r = s.r := rfl
@[simp] theorem State.setPr_sr (s : State) (v : Word) : (s.setPr v).sr = s.sr := rfl
@[simp] theorem State.setPr_gbr (s : State) (v : Word) : (s.setPr v).gbr = s.gbr := rfl
@[simp] theorem State.setPr_vbr (s : State) (v : Word) : (s.setPr v).vbr = s.vbr := rfl
@[simp] theorem State.setPr_mach (s : State) (v : Word) : (s.setPr v).mach = s.mach := rfl
@[simp] theorem State.setPr_macl (s : State) (v : Word) : (s.setPr v).macl = s.macl := rfl
@[simp] theorem State.setPr_pr (s : State) (v : Word) : (s.setPr v).pr = v := rfl
@[simp] theorem State.setPr_pc (s : State) (v : Word) : (s.setPr v).pc = s.pc := rfl
@[simp] theorem State.setPr_slot (s : State) (v : Word) : (s.setPr v).slot = s.slot := rfl
@[simp] theorem State.setPr_inhibit (s : State) (v : Word) : (s.setPr v).inhibit = s.inhibit := rfl
@[simp] theorem State.setPr_afterUntaken (s : State) (v : Word) : (s.setPr v).afterUntaken = s.afterUntaken := rfl
@[simp] theorem State.setPr_mode (s : State) (v : Word) : (s.setPr v).mode = s.mode := rfl
@[simp] theorem State.setPr_mem (s : State) (v : Word) : (s.setPr v).mem = s.mem := rfl
@[simp] theorem State.setPr_params (s : State) (v : Word) : (s.setPr v).params = s.params := rfl
@[simp] theorem State.setPr_inputs (s : State) (v : Word) : (s.setPr v).inputs = s.inputs := rfl
@[simp] theorem State.setPr_sby (s : State) (v : Word) : (s.setPr v).sby = s.sby := rfl
@[simp] theorem State.setPr_deviceWrites (s : State) (v : Word) : (s.setPr v).deviceWrites = s.deviceWrites := rfl
@[simp] theorem State.setPr_draws (s : State) (v : Word) : (s.setPr v).draws = s.draws := rfl
@[simp] theorem State.setPr_byteAt (s : State) (v : Word) (x : Word) : (s.setPr v).byteAt x = s.byteAt x := rfl
@[simp] theorem State.setPr_reg (s : State) (v : Word) (k : Reg) : (s.setPr v).reg k = s.reg k := rfl
@[simp] theorem State.setPr_nextPc (s : State) (v : Word) : (s.setPr v).nextPc = s.nextPc := rfl
@[simp] theorem State.setPr_pcValue (s : State) (v : Word) : (s.setPr v).pcValue = s.pcValue := rfl
@[simp] theorem State.setPr_region (s : State) (v : Word) (x : Word) : (s.setPr v).region x = s.region x := rfl

/-! ### `State.setMacl` -/

@[simp] theorem State.setMacl_r (s : State) (v : Word) : (s.setMacl v).r = s.r := rfl
@[simp] theorem State.setMacl_sr (s : State) (v : Word) : (s.setMacl v).sr = s.sr := rfl
@[simp] theorem State.setMacl_gbr (s : State) (v : Word) : (s.setMacl v).gbr = s.gbr := rfl
@[simp] theorem State.setMacl_vbr (s : State) (v : Word) : (s.setMacl v).vbr = s.vbr := rfl
@[simp] theorem State.setMacl_mach (s : State) (v : Word) : (s.setMacl v).mach = s.mach := rfl
@[simp] theorem State.setMacl_macl (s : State) (v : Word) : (s.setMacl v).macl = v := rfl
@[simp] theorem State.setMacl_pr (s : State) (v : Word) : (s.setMacl v).pr = s.pr := rfl
@[simp] theorem State.setMacl_pc (s : State) (v : Word) : (s.setMacl v).pc = s.pc := rfl
@[simp] theorem State.setMacl_slot (s : State) (v : Word) : (s.setMacl v).slot = s.slot := rfl
@[simp] theorem State.setMacl_inhibit (s : State) (v : Word) : (s.setMacl v).inhibit = s.inhibit := rfl
@[simp] theorem State.setMacl_afterUntaken (s : State) (v : Word) : (s.setMacl v).afterUntaken = s.afterUntaken := rfl
@[simp] theorem State.setMacl_mode (s : State) (v : Word) : (s.setMacl v).mode = s.mode := rfl
@[simp] theorem State.setMacl_mem (s : State) (v : Word) : (s.setMacl v).mem = s.mem := rfl
@[simp] theorem State.setMacl_params (s : State) (v : Word) : (s.setMacl v).params = s.params := rfl
@[simp] theorem State.setMacl_inputs (s : State) (v : Word) : (s.setMacl v).inputs = s.inputs := rfl
@[simp] theorem State.setMacl_sby (s : State) (v : Word) : (s.setMacl v).sby = s.sby := rfl
@[simp] theorem State.setMacl_deviceWrites (s : State) (v : Word) : (s.setMacl v).deviceWrites = s.deviceWrites := rfl
@[simp] theorem State.setMacl_draws (s : State) (v : Word) : (s.setMacl v).draws = s.draws := rfl
@[simp] theorem State.setMacl_byteAt (s : State) (v : Word) (x : Word) : (s.setMacl v).byteAt x = s.byteAt x := rfl
@[simp] theorem State.setMacl_reg (s : State) (v : Word) (k : Reg) : (s.setMacl v).reg k = s.reg k := rfl
@[simp] theorem State.setMacl_nextPc (s : State) (v : Word) : (s.setMacl v).nextPc = s.nextPc := rfl
@[simp] theorem State.setMacl_pcValue (s : State) (v : Word) : (s.setMacl v).pcValue = s.pcValue := rfl
@[simp] theorem State.setMacl_region (s : State) (v : Word) (x : Word) : (s.setMacl v).region x = s.region x := rfl

/-! ### `State.setMach` -/

@[simp] theorem State.setMach_r (s : State) (v : Word) : (s.setMach v).r = s.r := rfl
@[simp] theorem State.setMach_sr (s : State) (v : Word) : (s.setMach v).sr = s.sr := rfl
@[simp] theorem State.setMach_gbr (s : State) (v : Word) : (s.setMach v).gbr = s.gbr := rfl
@[simp] theorem State.setMach_vbr (s : State) (v : Word) : (s.setMach v).vbr = s.vbr := rfl
@[simp] theorem State.setMach_mach (s : State) (v : Word) : (s.setMach v).mach = machForm s.params.series v := rfl
@[simp] theorem State.setMach_macl (s : State) (v : Word) : (s.setMach v).macl = s.macl := rfl
@[simp] theorem State.setMach_pr (s : State) (v : Word) : (s.setMach v).pr = s.pr := rfl
@[simp] theorem State.setMach_pc (s : State) (v : Word) : (s.setMach v).pc = s.pc := rfl
@[simp] theorem State.setMach_slot (s : State) (v : Word) : (s.setMach v).slot = s.slot := rfl
@[simp] theorem State.setMach_inhibit (s : State) (v : Word) : (s.setMach v).inhibit = s.inhibit := rfl
@[simp] theorem State.setMach_afterUntaken (s : State) (v : Word) : (s.setMach v).afterUntaken = s.afterUntaken := rfl
@[simp] theorem State.setMach_mode (s : State) (v : Word) : (s.setMach v).mode = s.mode := rfl
@[simp] theorem State.setMach_mem (s : State) (v : Word) : (s.setMach v).mem = s.mem := rfl
@[simp] theorem State.setMach_params (s : State) (v : Word) : (s.setMach v).params = s.params := rfl
@[simp] theorem State.setMach_inputs (s : State) (v : Word) : (s.setMach v).inputs = s.inputs := rfl
@[simp] theorem State.setMach_sby (s : State) (v : Word) : (s.setMach v).sby = s.sby := rfl
@[simp] theorem State.setMach_deviceWrites (s : State) (v : Word) : (s.setMach v).deviceWrites = s.deviceWrites := rfl
@[simp] theorem State.setMach_draws (s : State) (v : Word) : (s.setMach v).draws = s.draws := rfl
@[simp] theorem State.setMach_byteAt (s : State) (v : Word) (x : Word) : (s.setMach v).byteAt x = s.byteAt x := rfl
@[simp] theorem State.setMach_reg (s : State) (v : Word) (k : Reg) : (s.setMach v).reg k = s.reg k := rfl
@[simp] theorem State.setMach_nextPc (s : State) (v : Word) : (s.setMach v).nextPc = s.nextPc := rfl
@[simp] theorem State.setMach_pcValue (s : State) (v : Word) : (s.setMach v).pcValue = s.pcValue := rfl
@[simp] theorem State.setMach_region (s : State) (v : Word) (x : Word) : (s.setMach v).region x = s.region x := rfl

/-! ### `State.setMac` -/

@[simp] theorem State.setMac_r (s : State) (v : BitVec 64) : (s.setMac v).r = s.r := rfl
@[simp] theorem State.setMac_sr (s : State) (v : BitVec 64) : (s.setMac v).sr = s.sr := rfl
@[simp] theorem State.setMac_gbr (s : State) (v : BitVec 64) : (s.setMac v).gbr = s.gbr := rfl
@[simp] theorem State.setMac_vbr (s : State) (v : BitVec 64) : (s.setMac v).vbr = s.vbr := rfl
@[simp] theorem State.setMac_mach (s : State) (v : BitVec 64) : (s.setMac v).mach = machForm s.params.series (v.extractLsb' 32 32) := rfl
@[simp] theorem State.setMac_macl (s : State) (v : BitVec 64) : (s.setMac v).macl = v.extractLsb' 0 32 := rfl
@[simp] theorem State.setMac_pr (s : State) (v : BitVec 64) : (s.setMac v).pr = s.pr := rfl
@[simp] theorem State.setMac_pc (s : State) (v : BitVec 64) : (s.setMac v).pc = s.pc := rfl
@[simp] theorem State.setMac_slot (s : State) (v : BitVec 64) : (s.setMac v).slot = s.slot := rfl
@[simp] theorem State.setMac_inhibit (s : State) (v : BitVec 64) : (s.setMac v).inhibit = s.inhibit := rfl
@[simp] theorem State.setMac_afterUntaken (s : State) (v : BitVec 64) : (s.setMac v).afterUntaken = s.afterUntaken := rfl
@[simp] theorem State.setMac_mode (s : State) (v : BitVec 64) : (s.setMac v).mode = s.mode := rfl
@[simp] theorem State.setMac_mem (s : State) (v : BitVec 64) : (s.setMac v).mem = s.mem := rfl
@[simp] theorem State.setMac_params (s : State) (v : BitVec 64) : (s.setMac v).params = s.params := rfl
@[simp] theorem State.setMac_inputs (s : State) (v : BitVec 64) : (s.setMac v).inputs = s.inputs := rfl
@[simp] theorem State.setMac_sby (s : State) (v : BitVec 64) : (s.setMac v).sby = s.sby := rfl
@[simp] theorem State.setMac_deviceWrites (s : State) (v : BitVec 64) : (s.setMac v).deviceWrites = s.deviceWrites := rfl
@[simp] theorem State.setMac_draws (s : State) (v : BitVec 64) : (s.setMac v).draws = s.draws := rfl
@[simp] theorem State.setMac_byteAt (s : State) (v : BitVec 64) (x : Word) : (s.setMac v).byteAt x = s.byteAt x := rfl
@[simp] theorem State.setMac_reg (s : State) (v : BitVec 64) (k : Reg) : (s.setMac v).reg k = s.reg k := rfl
@[simp] theorem State.setMac_nextPc (s : State) (v : BitVec 64) : (s.setMac v).nextPc = s.nextPc := rfl
@[simp] theorem State.setMac_pcValue (s : State) (v : BitVec 64) : (s.setMac v).pcValue = s.pcValue := rfl
@[simp] theorem State.setMac_region (s : State) (v : BitVec 64) (x : Word) : (s.setMac v).region x = s.region x := rfl

/-! ### `State.advance` -/

@[simp] theorem State.advance_r (s : State) : s.advance.r = s.r := rfl
@[simp] theorem State.advance_sr (s : State) : s.advance.sr = s.sr := rfl
@[simp] theorem State.advance_gbr (s : State) : s.advance.gbr = s.gbr := rfl
@[simp] theorem State.advance_vbr (s : State) : s.advance.vbr = s.vbr := rfl
@[simp] theorem State.advance_mach (s : State) : s.advance.mach = s.mach := rfl
@[simp] theorem State.advance_macl (s : State) : s.advance.macl = s.macl := rfl
@[simp] theorem State.advance_pr (s : State) : s.advance.pr = s.pr := rfl
@[simp] theorem State.advance_pc (s : State) : s.advance.pc = s.nextPc := rfl
@[simp] theorem State.advance_slot (s : State) : s.advance.slot = none := rfl
@[simp] theorem State.advance_inhibit (s : State) : s.advance.inhibit = false := rfl
@[simp] theorem State.advance_afterUntaken (s : State) : s.advance.afterUntaken = false := rfl
@[simp] theorem State.advance_mode (s : State) : s.advance.mode = s.mode := rfl
@[simp] theorem State.advance_mem (s : State) : s.advance.mem = s.mem := rfl
@[simp] theorem State.advance_params (s : State) : s.advance.params = s.params := rfl
@[simp] theorem State.advance_inputs (s : State) : s.advance.inputs = s.inputs := rfl
@[simp] theorem State.advance_sby (s : State) : s.advance.sby = s.sby := rfl
@[simp] theorem State.advance_standbyBit (s : State) : s.advance.standbyBit = s.standbyBit := rfl
@[simp] theorem State.advance_deviceWrites (s : State) : s.advance.deviceWrites = s.deviceWrites := rfl
@[simp] theorem State.advance_draws (s : State) : s.advance.draws = s.draws := rfl
@[simp] theorem State.advance_byteAt (s : State) (x : Word) : s.advance.byteAt x = s.byteAt x := rfl
@[simp] theorem State.advance_reg (s : State) (k : Reg) : s.advance.reg k = s.reg k := rfl
@[simp] theorem State.advance_region (s : State) (x : Word) : s.advance.region x = s.region x := rfl

/-! ### `State.advanceInhibit` -/

@[simp] theorem State.advanceInhibit_r (s : State) : s.advanceInhibit.r = s.r := rfl
@[simp] theorem State.advanceInhibit_sr (s : State) : s.advanceInhibit.sr = s.sr := rfl
@[simp] theorem State.advanceInhibit_gbr (s : State) : s.advanceInhibit.gbr = s.gbr := rfl
@[simp] theorem State.advanceInhibit_vbr (s : State) : s.advanceInhibit.vbr = s.vbr := rfl
@[simp] theorem State.advanceInhibit_mach (s : State) : s.advanceInhibit.mach = s.mach := rfl
@[simp] theorem State.advanceInhibit_macl (s : State) : s.advanceInhibit.macl = s.macl := rfl
@[simp] theorem State.advanceInhibit_pr (s : State) : s.advanceInhibit.pr = s.pr := rfl
@[simp] theorem State.advanceInhibit_pc (s : State) : s.advanceInhibit.pc = s.nextPc := rfl
@[simp] theorem State.advanceInhibit_slot (s : State) : s.advanceInhibit.slot = none := rfl
@[simp] theorem State.advanceInhibit_inhibit (s : State) : s.advanceInhibit.inhibit = true := rfl
@[simp] theorem State.advanceInhibit_afterUntaken (s : State) : s.advanceInhibit.afterUntaken = false := rfl
@[simp] theorem State.advanceInhibit_mode (s : State) : s.advanceInhibit.mode = s.mode := rfl
@[simp] theorem State.advanceInhibit_mem (s : State) : s.advanceInhibit.mem = s.mem := rfl
@[simp] theorem State.advanceInhibit_params (s : State) : s.advanceInhibit.params = s.params := rfl
@[simp] theorem State.advanceInhibit_inputs (s : State) : s.advanceInhibit.inputs = s.inputs := rfl
@[simp] theorem State.advanceInhibit_sby (s : State) : s.advanceInhibit.sby = s.sby := rfl
@[simp] theorem State.advanceInhibit_deviceWrites (s : State) : s.advanceInhibit.deviceWrites = s.deviceWrites := rfl
@[simp] theorem State.advanceInhibit_draws (s : State) : s.advanceInhibit.draws = s.draws := rfl
@[simp] theorem State.advanceInhibit_byteAt (s : State) (x : Word) : s.advanceInhibit.byteAt x = s.byteAt x := rfl
@[simp] theorem State.advanceInhibit_reg (s : State) (k : Reg) : s.advanceInhibit.reg k = s.reg k := rfl
@[simp] theorem State.advanceInhibit_region (s : State) (x : Word) : s.advanceInhibit.region x = s.region x := rfl

/-! ### `State.advanceUntaken` -/

@[simp] theorem State.advanceUntaken_r (s : State) : s.advanceUntaken.r = s.r := rfl
@[simp] theorem State.advanceUntaken_sr (s : State) : s.advanceUntaken.sr = s.sr := rfl
@[simp] theorem State.advanceUntaken_gbr (s : State) : s.advanceUntaken.gbr = s.gbr := rfl
@[simp] theorem State.advanceUntaken_vbr (s : State) : s.advanceUntaken.vbr = s.vbr := rfl
@[simp] theorem State.advanceUntaken_mach (s : State) : s.advanceUntaken.mach = s.mach := rfl
@[simp] theorem State.advanceUntaken_macl (s : State) : s.advanceUntaken.macl = s.macl := rfl
@[simp] theorem State.advanceUntaken_pr (s : State) : s.advanceUntaken.pr = s.pr := rfl
@[simp] theorem State.advanceUntaken_pc (s : State) : s.advanceUntaken.pc = s.nextPc := rfl
@[simp] theorem State.advanceUntaken_slot (s : State) : s.advanceUntaken.slot = none := rfl
@[simp] theorem State.advanceUntaken_inhibit (s : State) : s.advanceUntaken.inhibit = false := rfl
@[simp] theorem State.advanceUntaken_afterUntaken (s : State) : s.advanceUntaken.afterUntaken = true := rfl
@[simp] theorem State.advanceUntaken_mode (s : State) : s.advanceUntaken.mode = s.mode := rfl
@[simp] theorem State.advanceUntaken_mem (s : State) : s.advanceUntaken.mem = s.mem := rfl
@[simp] theorem State.advanceUntaken_params (s : State) : s.advanceUntaken.params = s.params := rfl
@[simp] theorem State.advanceUntaken_inputs (s : State) : s.advanceUntaken.inputs = s.inputs := rfl
@[simp] theorem State.advanceUntaken_sby (s : State) : s.advanceUntaken.sby = s.sby := rfl
@[simp] theorem State.advanceUntaken_deviceWrites (s : State) : s.advanceUntaken.deviceWrites = s.deviceWrites := rfl
@[simp] theorem State.advanceUntaken_draws (s : State) : s.advanceUntaken.draws = s.draws := rfl
@[simp] theorem State.advanceUntaken_byteAt (s : State) (x : Word) : s.advanceUntaken.byteAt x = s.byteAt x := rfl
@[simp] theorem State.advanceUntaken_reg (s : State) (k : Reg) : s.advanceUntaken.reg k = s.reg k := rfl
@[simp] theorem State.advanceUntaken_region (s : State) (x : Word) : s.advanceUntaken.region x = s.region x := rfl

/-! ### `State.branch` -/

@[simp] theorem State.branch_r (s : State) (a : Word) : (s.branch a).r = s.r := rfl
@[simp] theorem State.branch_sr (s : State) (a : Word) : (s.branch a).sr = s.sr := rfl
@[simp] theorem State.branch_gbr (s : State) (a : Word) : (s.branch a).gbr = s.gbr := rfl
@[simp] theorem State.branch_vbr (s : State) (a : Word) : (s.branch a).vbr = s.vbr := rfl
@[simp] theorem State.branch_mach (s : State) (a : Word) : (s.branch a).mach = s.mach := rfl
@[simp] theorem State.branch_macl (s : State) (a : Word) : (s.branch a).macl = s.macl := rfl
@[simp] theorem State.branch_pr (s : State) (a : Word) : (s.branch a).pr = s.pr := rfl
@[simp] theorem State.branch_pc (s : State) (a : Word) : (s.branch a).pc = a := rfl
@[simp] theorem State.branch_slot (s : State) (a : Word) : (s.branch a).slot = none := rfl
@[simp] theorem State.branch_inhibit (s : State) (a : Word) : (s.branch a).inhibit = false := rfl
@[simp] theorem State.branch_afterUntaken (s : State) (a : Word) : (s.branch a).afterUntaken = false := rfl
@[simp] theorem State.branch_mode (s : State) (a : Word) : (s.branch a).mode = s.mode := rfl
@[simp] theorem State.branch_mem (s : State) (a : Word) : (s.branch a).mem = s.mem := rfl
@[simp] theorem State.branch_params (s : State) (a : Word) : (s.branch a).params = s.params := rfl
@[simp] theorem State.branch_inputs (s : State) (a : Word) : (s.branch a).inputs = s.inputs := rfl
@[simp] theorem State.branch_sby (s : State) (a : Word) : (s.branch a).sby = s.sby := rfl
@[simp] theorem State.branch_deviceWrites (s : State) (a : Word) : (s.branch a).deviceWrites = s.deviceWrites := rfl
@[simp] theorem State.branch_draws (s : State) (a : Word) : (s.branch a).draws = s.draws := rfl
@[simp] theorem State.branch_byteAt (s : State) (a : Word) (x : Word) : (s.branch a).byteAt x = s.byteAt x := rfl
@[simp] theorem State.branch_reg (s : State) (a : Word) (k : Reg) : (s.branch a).reg k = s.reg k := rfl
@[simp] theorem State.branch_region (s : State) (a : Word) (x : Word) : (s.branch a).region x = s.region x := rfl

/-! ### `State.delayedBranch` -/

@[simp] theorem State.delayedBranch_r (s : State) (a : Word) : (s.delayedBranch a).r = s.r := rfl
@[simp] theorem State.delayedBranch_sr (s : State) (a : Word) : (s.delayedBranch a).sr = s.sr := rfl
@[simp] theorem State.delayedBranch_gbr (s : State) (a : Word) : (s.delayedBranch a).gbr = s.gbr := rfl
@[simp] theorem State.delayedBranch_vbr (s : State) (a : Word) : (s.delayedBranch a).vbr = s.vbr := rfl
@[simp] theorem State.delayedBranch_mach (s : State) (a : Word) : (s.delayedBranch a).mach = s.mach := rfl
@[simp] theorem State.delayedBranch_macl (s : State) (a : Word) : (s.delayedBranch a).macl = s.macl := rfl
@[simp] theorem State.delayedBranch_pr (s : State) (a : Word) : (s.delayedBranch a).pr = s.pr := rfl
@[simp] theorem State.delayedBranch_pc (s : State) (a : Word) : (s.delayedBranch a).pc = s.pc + 2 := rfl
@[simp] theorem State.delayedBranch_slot (s : State) (a : Word) : (s.delayedBranch a).slot = some a := rfl
@[simp] theorem State.delayedBranch_inhibit (s : State) (a : Word) : (s.delayedBranch a).inhibit = false := rfl
@[simp] theorem State.delayedBranch_afterUntaken (s : State) (a : Word) : (s.delayedBranch a).afterUntaken = false := rfl
@[simp] theorem State.delayedBranch_mode (s : State) (a : Word) : (s.delayedBranch a).mode = s.mode := rfl
@[simp] theorem State.delayedBranch_mem (s : State) (a : Word) : (s.delayedBranch a).mem = s.mem := rfl
@[simp] theorem State.delayedBranch_params (s : State) (a : Word) : (s.delayedBranch a).params = s.params := rfl
@[simp] theorem State.delayedBranch_inputs (s : State) (a : Word) : (s.delayedBranch a).inputs = s.inputs := rfl
@[simp] theorem State.delayedBranch_sby (s : State) (a : Word) : (s.delayedBranch a).sby = s.sby := rfl
@[simp] theorem State.delayedBranch_deviceWrites (s : State) (a : Word) : (s.delayedBranch a).deviceWrites = s.deviceWrites := rfl
@[simp] theorem State.delayedBranch_draws (s : State) (a : Word) : (s.delayedBranch a).draws = s.draws := rfl
@[simp] theorem State.delayedBranch_byteAt (s : State) (a : Word) (x : Word) : (s.delayedBranch a).byteAt x = s.byteAt x := rfl
@[simp] theorem State.delayedBranch_reg (s : State) (a : Word) (k : Reg) : (s.delayedBranch a).reg k = s.reg k := rfl
@[simp] theorem State.delayedBranch_region (s : State) (a : Word) (x : Word) : (s.delayedBranch a).region x = s.region x := rfl

/-! ### `State.enterHandler` -/

@[simp] theorem State.enterHandler_r (s : State) (a : Word) : (s.enterHandler a).r = s.r := rfl
@[simp] theorem State.enterHandler_sr (s : State) (a : Word) : (s.enterHandler a).sr = s.sr := rfl
@[simp] theorem State.enterHandler_gbr (s : State) (a : Word) : (s.enterHandler a).gbr = s.gbr := rfl
@[simp] theorem State.enterHandler_vbr (s : State) (a : Word) : (s.enterHandler a).vbr = s.vbr := rfl
@[simp] theorem State.enterHandler_mach (s : State) (a : Word) : (s.enterHandler a).mach = s.mach := rfl
@[simp] theorem State.enterHandler_macl (s : State) (a : Word) : (s.enterHandler a).macl = s.macl := rfl
@[simp] theorem State.enterHandler_pr (s : State) (a : Word) : (s.enterHandler a).pr = s.pr := rfl
@[simp] theorem State.enterHandler_pc (s : State) (a : Word) : (s.enterHandler a).pc = a := rfl
@[simp] theorem State.enterHandler_slot (s : State) (a : Word) : (s.enterHandler a).slot = none := rfl
@[simp] theorem State.enterHandler_inhibit (s : State) (a : Word) : (s.enterHandler a).inhibit = false := rfl
@[simp] theorem State.enterHandler_afterUntaken (s : State) (a : Word) : (s.enterHandler a).afterUntaken = false := rfl
@[simp] theorem State.enterHandler_mode (s : State) (a : Word) : (s.enterHandler a).mode = .programExecution := rfl
@[simp] theorem State.enterHandler_mem (s : State) (a : Word) : (s.enterHandler a).mem = s.mem := rfl
@[simp] theorem State.enterHandler_params (s : State) (a : Word) : (s.enterHandler a).params = s.params := rfl
@[simp] theorem State.enterHandler_inputs (s : State) (a : Word) : (s.enterHandler a).inputs = s.inputs := rfl
@[simp] theorem State.enterHandler_sby (s : State) (a : Word) : (s.enterHandler a).sby = s.sby := rfl
@[simp] theorem State.enterHandler_deviceWrites (s : State) (a : Word) : (s.enterHandler a).deviceWrites = s.deviceWrites := rfl
@[simp] theorem State.enterHandler_draws (s : State) (a : Word) : (s.enterHandler a).draws = s.draws := rfl
@[simp] theorem State.enterHandler_byteAt (s : State) (a : Word) (x : Word) : (s.enterHandler a).byteAt x = s.byteAt x := rfl
@[simp] theorem State.enterHandler_reg (s : State) (a : Word) (k : Reg) : (s.enterHandler a).reg k = s.reg k := rfl
@[simp] theorem State.enterHandler_region (s : State) (a : Word) (x : Word) : (s.enterHandler a).region x = s.region x := rfl

/-! ### `State.setDraws` -/

@[simp] theorem State.setDraws_r (s : State) (d : Nat) : (s.setDraws d).r = s.r := rfl
@[simp] theorem State.setDraws_sr (s : State) (d : Nat) : (s.setDraws d).sr = s.sr := rfl
@[simp] theorem State.setDraws_gbr (s : State) (d : Nat) : (s.setDraws d).gbr = s.gbr := rfl
@[simp] theorem State.setDraws_vbr (s : State) (d : Nat) : (s.setDraws d).vbr = s.vbr := rfl
@[simp] theorem State.setDraws_mach (s : State) (d : Nat) : (s.setDraws d).mach = s.mach := rfl
@[simp] theorem State.setDraws_macl (s : State) (d : Nat) : (s.setDraws d).macl = s.macl := rfl
@[simp] theorem State.setDraws_pr (s : State) (d : Nat) : (s.setDraws d).pr = s.pr := rfl
@[simp] theorem State.setDraws_pc (s : State) (d : Nat) : (s.setDraws d).pc = s.pc := rfl
@[simp] theorem State.setDraws_slot (s : State) (d : Nat) : (s.setDraws d).slot = s.slot := rfl
@[simp] theorem State.setDraws_inhibit (s : State) (d : Nat) : (s.setDraws d).inhibit = s.inhibit := rfl
@[simp] theorem State.setDraws_afterUntaken (s : State) (d : Nat) : (s.setDraws d).afterUntaken = s.afterUntaken := rfl
@[simp] theorem State.setDraws_mode (s : State) (d : Nat) : (s.setDraws d).mode = s.mode := rfl
@[simp] theorem State.setDraws_mem (s : State) (d : Nat) : (s.setDraws d).mem = s.mem := rfl
@[simp] theorem State.setDraws_params (s : State) (d : Nat) : (s.setDraws d).params = s.params := rfl
@[simp] theorem State.setDraws_inputs (s : State) (d : Nat) : (s.setDraws d).inputs = s.inputs := rfl
@[simp] theorem State.setDraws_sby (s : State) (d : Nat) : (s.setDraws d).sby = s.sby := rfl
@[simp] theorem State.setDraws_deviceWrites (s : State) (d : Nat) : (s.setDraws d).deviceWrites = s.deviceWrites := rfl
@[simp] theorem State.setDraws_draws (s : State) (d : Nat) : (s.setDraws d).draws = d := rfl
@[simp] theorem State.setDraws_byteAt (s : State) (d : Nat) (x : Word) : (s.setDraws d).byteAt x = s.byteAt x := rfl
@[simp] theorem State.setDraws_reg (s : State) (d : Nat) (k : Reg) : (s.setDraws d).reg k = s.reg k := rfl
@[simp] theorem State.setDraws_nextPc (s : State) (d : Nat) : (s.setDraws d).nextPc = s.nextPc := rfl
@[simp] theorem State.setDraws_pcValue (s : State) (d : Nat) : (s.setDraws d).pcValue = s.pcValue := rfl
@[simp] theorem State.setDraws_region (s : State) (d : Nat) (x : Word) : (s.setDraws d).region x = s.region x := rfl

/-! ### `State.setMode` -/

@[simp] theorem State.setMode_r (s : State) (mode : Mode) : (s.setMode mode).r = s.r := rfl
@[simp] theorem State.setMode_sr (s : State) (mode : Mode) : (s.setMode mode).sr = s.sr := rfl
@[simp] theorem State.setMode_gbr (s : State) (mode : Mode) : (s.setMode mode).gbr = s.gbr := rfl
@[simp] theorem State.setMode_vbr (s : State) (mode : Mode) : (s.setMode mode).vbr = s.vbr := rfl
@[simp] theorem State.setMode_mach (s : State) (mode : Mode) : (s.setMode mode).mach = s.mach := rfl
@[simp] theorem State.setMode_macl (s : State) (mode : Mode) : (s.setMode mode).macl = s.macl := rfl
@[simp] theorem State.setMode_pr (s : State) (mode : Mode) : (s.setMode mode).pr = s.pr := rfl
@[simp] theorem State.setMode_pc (s : State) (mode : Mode) : (s.setMode mode).pc = s.pc := rfl
@[simp] theorem State.setMode_slot (s : State) (mode : Mode) : (s.setMode mode).slot = s.slot := rfl
@[simp] theorem State.setMode_inhibit (s : State) (mode : Mode) : (s.setMode mode).inhibit = s.inhibit := rfl
@[simp] theorem State.setMode_afterUntaken (s : State) (mode : Mode) : (s.setMode mode).afterUntaken = s.afterUntaken := rfl
@[simp] theorem State.setMode_mode (s : State) (mode : Mode) : (s.setMode mode).mode = mode := rfl
@[simp] theorem State.setMode_mem (s : State) (mode : Mode) : (s.setMode mode).mem = s.mem := rfl
@[simp] theorem State.setMode_params (s : State) (mode : Mode) : (s.setMode mode).params = s.params := rfl
@[simp] theorem State.setMode_inputs (s : State) (mode : Mode) : (s.setMode mode).inputs = s.inputs := rfl
@[simp] theorem State.setMode_sby (s : State) (mode : Mode) : (s.setMode mode).sby = s.sby := rfl
@[simp] theorem State.setMode_standbyBit (s : State) (mode : Mode) : (s.setMode mode).standbyBit = s.standbyBit := rfl
@[simp] theorem State.setMode_deviceWrites (s : State) (mode : Mode) : (s.setMode mode).deviceWrites = s.deviceWrites := rfl
@[simp] theorem State.setMode_draws (s : State) (mode : Mode) : (s.setMode mode).draws = s.draws := rfl
@[simp] theorem State.setMode_byteAt (s : State) (mode : Mode) (x : Word) : (s.setMode mode).byteAt x = s.byteAt x := rfl
@[simp] theorem State.setMode_reg (s : State) (mode : Mode) (k : Reg) : (s.setMode mode).reg k = s.reg k := rfl
@[simp] theorem State.setMode_nextPc (s : State) (mode : Mode) : (s.setMode mode).nextPc = s.nextPc := rfl
@[simp] theorem State.setMode_pcValue (s : State) (mode : Mode) : (s.setMode mode).pcValue = s.pcValue := rfl
@[simp] theorem State.setMode_region (s : State) (mode : Mode) (x : Word) : (s.setMode mode).region x = s.region x := rfl

/-! ### `State.setByte` -/

@[simp] theorem State.setByte_r (s : State) (a : Word) (v : Byte) : (s.setByte a v).r = s.r := rfl
@[simp] theorem State.setByte_sr (s : State) (a : Word) (v : Byte) : (s.setByte a v).sr = s.sr := rfl
@[simp] theorem State.setByte_gbr (s : State) (a : Word) (v : Byte) : (s.setByte a v).gbr = s.gbr := rfl
@[simp] theorem State.setByte_vbr (s : State) (a : Word) (v : Byte) : (s.setByte a v).vbr = s.vbr := rfl
@[simp] theorem State.setByte_mach (s : State) (a : Word) (v : Byte) : (s.setByte a v).mach = s.mach := rfl
@[simp] theorem State.setByte_macl (s : State) (a : Word) (v : Byte) : (s.setByte a v).macl = s.macl := rfl
@[simp] theorem State.setByte_pr (s : State) (a : Word) (v : Byte) : (s.setByte a v).pr = s.pr := rfl
@[simp] theorem State.setByte_pc (s : State) (a : Word) (v : Byte) : (s.setByte a v).pc = s.pc := rfl
@[simp] theorem State.setByte_slot (s : State) (a : Word) (v : Byte) : (s.setByte a v).slot = s.slot := rfl
@[simp] theorem State.setByte_inhibit (s : State) (a : Word) (v : Byte) : (s.setByte a v).inhibit = s.inhibit := rfl
@[simp] theorem State.setByte_afterUntaken (s : State) (a : Word) (v : Byte) : (s.setByte a v).afterUntaken = s.afterUntaken := rfl
@[simp] theorem State.setByte_mode (s : State) (a : Word) (v : Byte) : (s.setByte a v).mode = s.mode := rfl
@[simp] theorem State.setByte_mem (s : State) (a : Word) (v : Byte) : (s.setByte a v).mem = Memory.insert s.mem a.toNat v := rfl
@[simp] theorem State.setByte_params (s : State) (a : Word) (v : Byte) : (s.setByte a v).params = s.params := rfl
@[simp] theorem State.setByte_inputs (s : State) (a : Word) (v : Byte) : (s.setByte a v).inputs = s.inputs := rfl
@[simp] theorem State.setByte_sby (s : State) (a : Word) (v : Byte) : (s.setByte a v).sby = s.sby := rfl
@[simp] theorem State.setByte_deviceWrites (s : State) (a : Word) (v : Byte) : (s.setByte a v).deviceWrites = s.deviceWrites := rfl
@[simp] theorem State.setByte_draws (s : State) (a : Word) (v : Byte) : (s.setByte a v).draws = s.draws := rfl
@[simp] theorem State.setByte_reg (s : State) (a : Word) (v : Byte) (k : Reg) : (s.setByte a v).reg k = s.reg k := rfl
@[simp] theorem State.setByte_nextPc (s : State) (a : Word) (v : Byte) : (s.setByte a v).nextPc = s.nextPc := rfl
@[simp] theorem State.setByte_pcValue (s : State) (a : Word) (v : Byte) : (s.setByte a v).pcValue = s.pcValue := rfl
@[simp] theorem State.setByte_region (s : State) (a : Word) (v : Byte) (x : Word) : (s.setByte a v).region x = s.region x := rfl

/-! ### `State.deviceWrite` -/

@[simp] theorem State.deviceWrite_r (s : State) (a v : Word) (sz : Size) : (s.deviceWrite a v sz).r = s.r := rfl
@[simp] theorem State.deviceWrite_sr (s : State) (a v : Word) (sz : Size) : (s.deviceWrite a v sz).sr = s.sr := rfl
@[simp] theorem State.deviceWrite_gbr (s : State) (a v : Word) (sz : Size) : (s.deviceWrite a v sz).gbr = s.gbr := rfl
@[simp] theorem State.deviceWrite_vbr (s : State) (a v : Word) (sz : Size) : (s.deviceWrite a v sz).vbr = s.vbr := rfl
@[simp] theorem State.deviceWrite_mach (s : State) (a v : Word) (sz : Size) : (s.deviceWrite a v sz).mach = s.mach := rfl
@[simp] theorem State.deviceWrite_macl (s : State) (a v : Word) (sz : Size) : (s.deviceWrite a v sz).macl = s.macl := rfl
@[simp] theorem State.deviceWrite_pr (s : State) (a v : Word) (sz : Size) : (s.deviceWrite a v sz).pr = s.pr := rfl
@[simp] theorem State.deviceWrite_pc (s : State) (a v : Word) (sz : Size) : (s.deviceWrite a v sz).pc = s.pc := rfl
@[simp] theorem State.deviceWrite_slot (s : State) (a v : Word) (sz : Size) : (s.deviceWrite a v sz).slot = s.slot := rfl
@[simp] theorem State.deviceWrite_inhibit (s : State) (a v : Word) (sz : Size) : (s.deviceWrite a v sz).inhibit = s.inhibit := rfl
@[simp] theorem State.deviceWrite_afterUntaken (s : State) (a v : Word) (sz : Size) : (s.deviceWrite a v sz).afterUntaken = s.afterUntaken := rfl
@[simp] theorem State.deviceWrite_mode (s : State) (a v : Word) (sz : Size) : (s.deviceWrite a v sz).mode = s.mode := rfl
@[simp] theorem State.deviceWrite_mem (s : State) (a v : Word) (sz : Size) : (s.deviceWrite a v sz).mem = s.mem := rfl
@[simp] theorem State.deviceWrite_params (s : State) (a v : Word) (sz : Size) : (s.deviceWrite a v sz).params = s.params := rfl
@[simp] theorem State.deviceWrite_inputs (s : State) (a v : Word) (sz : Size) : (s.deviceWrite a v sz).inputs = s.inputs := rfl
@[simp] theorem State.deviceWrite_sby (s : State) (a v : Word) (sz : Size) : (s.deviceWrite a v sz).sby = s.sby := rfl
@[simp] theorem State.deviceWrite_deviceWrites (s : State) (a v : Word) (sz : Size) : (s.deviceWrite a v sz).deviceWrites = { addr := a, size := sz, value := sz.cut v } :: s.deviceWrites := rfl
@[simp] theorem State.deviceWrite_draws (s : State) (a v : Word) (sz : Size) : (s.deviceWrite a v sz).draws = s.draws := rfl
@[simp] theorem State.deviceWrite_byteAt (s : State) (a v : Word) (sz : Size) (x : Word) : (s.deviceWrite a v sz).byteAt x = s.byteAt x := rfl
@[simp] theorem State.deviceWrite_reg (s : State) (a v : Word) (sz : Size) (k : Reg) : (s.deviceWrite a v sz).reg k = s.reg k := rfl
@[simp] theorem State.deviceWrite_nextPc (s : State) (a v : Word) (sz : Size) : (s.deviceWrite a v sz).nextPc = s.nextPc := rfl
@[simp] theorem State.deviceWrite_pcValue (s : State) (a v : Word) (sz : Size) : (s.deviceWrite a v sz).pcValue = s.pcValue := rfl
@[simp] theorem State.deviceWrite_region (s : State) (a v : Word) (sz : Size) (x : Word) : (s.deviceWrite a v sz).region x = s.region x := rfl

/-! ### `State.putValue` and `State.setMask` -/

@[simp] theorem State.putValue_r (s : State) (a v : Word) (sz : Size) : (s.putValue a v sz).r = s.r := by
  cases sz <;> rfl
@[simp] theorem State.putValue_sr (s : State) (a v : Word) (sz : Size) : (s.putValue a v sz).sr = s.sr := by
  cases sz <;> rfl
@[simp] theorem State.putValue_gbr (s : State) (a v : Word) (sz : Size) : (s.putValue a v sz).gbr = s.gbr := by
  cases sz <;> rfl
@[simp] theorem State.putValue_vbr (s : State) (a v : Word) (sz : Size) : (s.putValue a v sz).vbr = s.vbr := by
  cases sz <;> rfl
@[simp] theorem State.putValue_mach (s : State) (a v : Word) (sz : Size) : (s.putValue a v sz).mach = s.mach := by
  cases sz <;> rfl
@[simp] theorem State.putValue_macl (s : State) (a v : Word) (sz : Size) : (s.putValue a v sz).macl = s.macl := by
  cases sz <;> rfl
@[simp] theorem State.putValue_pr (s : State) (a v : Word) (sz : Size) : (s.putValue a v sz).pr = s.pr := by
  cases sz <;> rfl
@[simp] theorem State.putValue_pc (s : State) (a v : Word) (sz : Size) : (s.putValue a v sz).pc = s.pc := by
  cases sz <;> rfl
@[simp] theorem State.putValue_slot (s : State) (a v : Word) (sz : Size) : (s.putValue a v sz).slot = s.slot := by
  cases sz <;> rfl
@[simp] theorem State.putValue_inhibit (s : State) (a v : Word) (sz : Size) : (s.putValue a v sz).inhibit = s.inhibit := by
  cases sz <;> rfl
@[simp] theorem State.putValue_afterUntaken (s : State) (a v : Word) (sz : Size) : (s.putValue a v sz).afterUntaken = s.afterUntaken := by
  cases sz <;> rfl
@[simp] theorem State.putValue_mode (s : State) (a v : Word) (sz : Size) : (s.putValue a v sz).mode = s.mode := by
  cases sz <;> rfl
@[simp] theorem State.putValue_params (s : State) (a v : Word) (sz : Size) : (s.putValue a v sz).params = s.params := by
  cases sz <;> rfl
@[simp] theorem State.putValue_inputs (s : State) (a v : Word) (sz : Size) : (s.putValue a v sz).inputs = s.inputs := by
  cases sz <;> rfl
@[simp] theorem State.putValue_sby (s : State) (a v : Word) (sz : Size) : (s.putValue a v sz).sby = s.sby := by
  cases sz <;> rfl
@[simp] theorem State.putValue_deviceWrites (s : State) (a v : Word) (sz : Size) : (s.putValue a v sz).deviceWrites = s.deviceWrites := by
  cases sz <;> rfl
@[simp] theorem State.putValue_draws (s : State) (a v : Word) (sz : Size) : (s.putValue a v sz).draws = s.draws := by
  cases sz <;> rfl
@[simp] theorem State.putValue_reg (s : State) (a v : Word) (sz : Size) (k : Reg) :
    (s.putValue a v sz).reg k = s.reg k := by
  cases sz <;> rfl
@[simp] theorem State.putValue_nextPc (s : State) (a v : Word) (sz : Size) : (s.putValue a v sz).nextPc = s.nextPc := by
  cases sz <;> rfl
@[simp] theorem State.putValue_pcValue (s : State) (a v : Word) (sz : Size) : (s.putValue a v sz).pcValue = s.pcValue := by
  cases sz <;> rfl
@[simp] theorem State.putValue_region (s : State) (a v : Word) (sz : Size) (x : Word) :
    (s.putValue a v sz).region x = s.region x := by
  cases sz <;> rfl

@[simp] theorem State.setMask_r (s : State) (k : Option (BitVec 4)) : (s.setMask k).r = s.r := by
  cases k <;> rfl
@[simp] theorem State.setMask_gbr (s : State) (k : Option (BitVec 4)) : (s.setMask k).gbr = s.gbr := by
  cases k <;> rfl
@[simp] theorem State.setMask_vbr (s : State) (k : Option (BitVec 4)) : (s.setMask k).vbr = s.vbr := by
  cases k <;> rfl
@[simp] theorem State.setMask_mach (s : State) (k : Option (BitVec 4)) : (s.setMask k).mach = s.mach := by
  cases k <;> rfl
@[simp] theorem State.setMask_macl (s : State) (k : Option (BitVec 4)) : (s.setMask k).macl = s.macl := by
  cases k <;> rfl
@[simp] theorem State.setMask_pr (s : State) (k : Option (BitVec 4)) : (s.setMask k).pr = s.pr := by
  cases k <;> rfl
@[simp] theorem State.setMask_pc (s : State) (k : Option (BitVec 4)) : (s.setMask k).pc = s.pc := by
  cases k <;> rfl
@[simp] theorem State.setMask_slot (s : State) (k : Option (BitVec 4)) : (s.setMask k).slot = s.slot := by
  cases k <;> rfl
@[simp] theorem State.setMask_inhibit (s : State) (k : Option (BitVec 4)) : (s.setMask k).inhibit = s.inhibit := by
  cases k <;> rfl
@[simp] theorem State.setMask_afterUntaken (s : State) (k : Option (BitVec 4)) : (s.setMask k).afterUntaken = s.afterUntaken := by
  cases k <;> rfl
@[simp] theorem State.setMask_mode (s : State) (k : Option (BitVec 4)) : (s.setMask k).mode = s.mode := by
  cases k <;> rfl
@[simp] theorem State.setMask_mem (s : State) (k : Option (BitVec 4)) : (s.setMask k).mem = s.mem := by
  cases k <;> rfl
@[simp] theorem State.setMask_params (s : State) (k : Option (BitVec 4)) : (s.setMask k).params = s.params := by
  cases k <;> rfl
@[simp] theorem State.setMask_inputs (s : State) (k : Option (BitVec 4)) : (s.setMask k).inputs = s.inputs := by
  cases k <;> rfl
@[simp] theorem State.setMask_sby (s : State) (k : Option (BitVec 4)) : (s.setMask k).sby = s.sby := by
  cases k <;> rfl
@[simp] theorem State.setMask_deviceWrites (s : State) (k : Option (BitVec 4)) : (s.setMask k).deviceWrites = s.deviceWrites := by
  cases k <;> rfl
@[simp] theorem State.setMask_draws (s : State) (k : Option (BitVec 4)) : (s.setMask k).draws = s.draws := by
  cases k <;> rfl
theorem State.setMask_sr (s : State) (k : Option (BitVec 4)) : (s.setMask k).sr = { s.sr with i := k.getD s.sr.i } := by
  cases k <;> rfl
@[simp] theorem State.setMask_none (s : State) : s.setMask none = s := rfl
@[simp] theorem State.setMask_some_sr (s : State) (k : BitVec 4) : (s.setMask (some k)).sr = { s.sr with i := k } := rfl
@[simp] theorem State.setMask_reg (s : State) (k : Option (BitVec 4)) (n : Reg) : (s.setMask k).reg n = s.reg n := by
  cases k <;> rfl
@[simp] theorem State.setMask_byteAt (s : State) (k : Option (BitVec 4)) (x : Word) :
    (s.setMask k).byteAt x = s.byteAt x := by
  cases k <;> rfl
@[simp] theorem State.setMask_region (s : State) (k : Option (BitVec 4)) (x : Word) :
    (s.setMask k).region x = s.region x := by
  cases k <;> rfl

/-! ### Registers -/

/-- Reading the register just written. -/
@[simp] theorem State.reg_setReg_self (s : State) (n : Reg) (v : Word) : (s.setReg n v).reg n = v := by
  simp [State.reg, State.setReg]

/-- Writing a register leaves the others alone. -/
@[simp] theorem State.reg_setReg_ne (s : State) (n k : Reg) (v : Word) (h : k ≠ n) :
    (s.setReg n v).reg k = s.reg k := by
  have : n.toNat ≠ k.toNat := fun e => h (BitVec.eq_of_toNat_eq e.symm)
  simp [State.reg, State.setReg, this]

/-- Reading any register after a write. -/
theorem State.reg_setReg (s : State) (n k : Reg) (v : Word) :
    (s.setReg n v).reg k = if k = n then v else s.reg k := by
  by_cases h : k = n
  · simp [h]
  · simp [h, State.reg_setReg_ne s n k v h]

/-- Two writes of one register: the later one stays. -/
@[simp] theorem State.setReg_setReg_self (s : State) (n : Reg) (v w : Word) : (s.setReg n v).setReg n w = s.setReg n w := by
  simp [State.setReg, Vector.set_set]

/-- The word and longword at an address depend on memory alone. -/
theorem State.wordAt_congr {s t : State} (h : ∀ x, t.byteAt x = s.byteAt x) (a : Word) : t.wordAt a = s.wordAt a := by
  simp [State.wordAt, h]

theorem State.longAt_congr {s t : State} (h : ∀ x, t.byteAt x = s.byteAt x) (a : Word) : t.longAt a = s.longAt a := by
  simp [State.longAt, State.wordAt, h]

theorem State.valueAt_congr {s t : State} (h : ∀ x, t.byteAt x = s.byteAt x) (a : Word) (sz : Size) :
    t.valueAt a sz = s.valueAt a sz := by
  cases sz <;> simp [State.valueAt, State.longAt, State.wordAt, h]

end Sys2Proof.Machine
end

