-- ==== Sys2Proof/Laws/Memory.lean ====
section
/-! SUPPORT. The laws of memory: reading after writing, the canonical form, and what each access can answer. -/

namespace Sys2Proof.Machine

/-! ### The list -/

/-- Looking up after an insertion. -/
theorem Memory.lookup_insert (mem : List Host.Cell) (a b : Nat) (v : Byte) :
    Memory.lookup (Memory.insert mem a v) b = if b = a then some v else Memory.lookup mem b := by
  induction mem with
  | nil => simp [Memory.insert, Memory.lookup]
  | cons c rest ih =>
    obtain ⟨k, w⟩ := c
    simp only [Memory.insert]
    split
    · simp [Memory.lookup]
    · split
      · subst_vars; by_cases h : b = k <;> simp [Memory.lookup, h]
      · by_cases h : b = k
        · subst h; simp [Memory.lookup]; omega
        · simp [Memory.lookup, h, ih]

/-- The canonical form as a statement about the head and the rest. -/
theorem Memory.wf_cons (k : Nat) (v : Byte) (rest : List Host.Cell) :
    Memory.wf ((k, v) :: rest) = true ↔
      k < 2 ^ 32 ∧ (∀ c, rest.head? = some c → k < c.1) ∧ Memory.wf rest = true := by
  induction rest generalizing k v with
  | nil => simp [Memory.wf]
  | cons c rest ih =>
    obtain ⟨k', v'⟩ := c
    simp only [Memory.wf, Bool.and_eq_true, decide_eq_true_eq, List.head?_cons, Option.some.injEq, forall_eq']
    constructor
    · rintro ⟨h, w⟩
      have := (ih k' v').1 w
      exact ⟨by omega, h, w⟩
    · rintro ⟨-, h, w⟩
      exact ⟨h, w⟩

/-- The head of a list with a byte inserted. -/
theorem Memory.head?_insert (mem : List Host.Cell) (a : Nat) (v : Byte) (c : Host.Cell)
    (h : (Memory.insert mem a v).head? = some c) : c.1 = a ∨ mem.head? = some c := by
  cases mem with
  | nil => left; simp [Memory.insert] at h; simp [← h]
  | cons d rest =>
    obtain ⟨k, w⟩ := d
    simp only [Memory.insert] at h
    split at h
    · left; simp at h; simp [← h]
    · split at h
      · left; simp at h; simp [← h]
      · right; simpa using h

/-- A write keeps the canonical form. -/
theorem Memory.wf_insert (mem : List Host.Cell) (a : Nat) (v : Byte) (ha : a < 2 ^ 32) (h : Memory.wf mem = true) :
    Memory.wf (Memory.insert mem a v) = true := by
  induction mem with
  | nil => simpa [Memory.insert, Memory.wf] using ha
  | cons c rest ih =>
    obtain ⟨k, w⟩ := c
    obtain ⟨hk, hh, hr⟩ := (Memory.wf_cons k w rest).1 h
    simp only [Memory.insert]
    split
    · next hlt => exact (Memory.wf_cons _ _ _).2 ⟨ha, by simpa using hlt, h⟩
    · split
      · next heq => subst heq; exact (Memory.wf_cons _ _ _).2 ⟨hk, hh, hr⟩
      · next h1 h2 =>
        refine (Memory.wf_cons _ _ _).2 ⟨hk, fun c hc => ?_, ih hr⟩
        rcases Memory.head?_insert rest a v c hc with e | e
        · omega
        · exact hh c e

/-! ### Bytes -/

/-- Reading a byte after writing one. -/
theorem State.byteAt_setByte (s : State) (a b : Word) (v : Byte) :
    (s.setByte a v).byteAt b = if b = a then v else s.byteAt b := by
  simp only [State.byteAt, State.setByte_mem, Memory.lookup_insert]
  by_cases h : b = a
  · simp [h]
  · have : b.toNat ≠ a.toNat := fun e => h (BitVec.eq_of_toNat_eq e)
    simp [h, this]

/-- Writing a byte keeps the canonical form. -/
theorem State.wf_setByte (s : State) (a : Word) (v : Byte) (h : Memory.wf s.mem = true) :
    Memory.wf (s.setByte a v).mem = true :=
  Memory.wf_insert s.mem a.toNat v a.isLt h

/-- A write leaves every byte outside it alone. -/
theorem State.byteAt_putValue_outside (s : State) (a v : Word) (sz : Size) (b : Word) (h : b ∉ sz.span a) :
    (s.putValue a v sz).byteAt b = s.byteAt b := by
  cases sz <;> simp [Size.span] at h <;> simp [State.putValue, State.byteAt_setByte, h]

/-- The bytes of a word written. -/
theorem State.wordAt_putValue (s : State) (a v : Word) :
    (s.putValue a v .word).wordAt a = v.extractLsb' 0 16 := by
  have h1 : a ≠ a + 1 := by bv_omega
  simp only [State.putValue, State.wordAt, State.byteAt_setByte, h1, if_true, if_false, byteOf]
  ext i hi
  simp only [BitVec.getElem_append, BitVec.getElem_extractLsb']
  split <;> congr 1
  omega

/-- Reading a value after writing it. -/
theorem State.valueAt_putValue (s : State) (a v : Word) (sz : Size) : (s.putValue a v sz).valueAt a sz = sz.cut v := by
  have h1 : a ≠ a + 1 := by bv_omega
  have h2 : a ≠ a + 2 := by bv_omega
  have h3 : a ≠ a + 3 := by bv_omega
  have h4 : a + 1 ≠ a + 2 := by bv_omega
  have h5 : a + 1 ≠ a + 3 := by bv_omega
  have h6 : a + 2 ≠ a + 3 := by bv_omega
  have h7 : a + 2 + 1 = a + 3 := by bv_omega
  cases sz
  · simp [State.valueAt, State.putValue, State.byteAt_setByte, Size.cut, byteOf]
  · simp [State.valueAt, Size.cut, State.wordAt_putValue]
  · simp only [State.valueAt, State.putValue, State.longAt, State.wordAt, State.byteAt_setByte, Size.cut, h7, h1, h2, h3,
      h4, h5, h6, if_true, if_false, byteOf]
    ext i hi
    simp only [BitVec.getElem_append, BitVec.getElem_extractLsb']
    split_ifs <;> rw [← BitVec.getLsbD_eq_getElem hi] <;> congr 1 <;> omega

/-- A write keeps the canonical form. -/
theorem State.wf_putValue (s : State) (a v : Word) (sz : Size) (h : Memory.wf s.mem = true) :
    Memory.wf (s.putValue a v sz).mem = true := by
  cases sz
  all_goals simp only [State.putValue]
  all_goals (repeat' apply State.wf_setByte)
  all_goals exact h

/-- Another bus master's writes keep the canonical form. -/
theorem State.wf_busWrite (s : State) (ws : List (Word × Byte)) (h : Memory.wf s.mem = true) :
    Memory.wf (s.busWrite ws).mem = true := by
  induction ws generalizing s with
  | nil => exact h
  | cons w rest ih => exact ih _ (State.wf_setByte s w.1 w.2 h)

/-! ### Device registers in a memory map -/

/-- The addresses `hasDevices` looks at. -/
theorem hasDevices_iff_boundary (map : List Region) : hasDevices map = true ↔
    ∃ a, (∃ g ∈ map, a = g.base ∨ a = g.base + g.size) ∧ a < 2 ^ 32 ∧ isDevice (regionIn map a) = true := by
  simp only [hasDevices, List.any_eq_true, List.mem_append, List.mem_map, Bool.and_eq_true, decide_eq_true_eq]
  constructor
  · rintro ⟨a, ⟨g, hg, rfl⟩ | ⟨g, hg, rfl⟩, h⟩
    · exact ⟨_, ⟨g, hg, .inl rfl⟩, h⟩
    · exact ⟨_, ⟨g, hg, .inr rfl⟩, h⟩
  · rintro ⟨a, ⟨g, hg, rfl | rfl⟩, h⟩
    · exact ⟨_, .inl ⟨g, hg, rfl⟩, h⟩
    · exact ⟨_, .inr ⟨g, hg, rfl⟩, h⟩

/-- The kind of an address is that of the one before it where no region begins or ends. -/
theorem regionIn_succ {map : List Region} {a : Nat} (h : ∀ g ∈ map, a + 1 ≠ g.base ∧ a + 1 ≠ g.base + g.size) :
    regionIn map (a + 1) = regionIn map a := by
  induction map with
  | nil => rfl
  | cons g rest ih =>
    have hg := h g (by simp)
    have e : (g.base ≤ a + 1 ∧ a + 1 < g.base + g.size) ↔ (g.base ≤ a ∧ a < g.base + g.size) := by omega
    simp only [regionIn, e, ih fun g' h' => h g' (by simp [h'])]

/-- Address 0 is ordinary memory where no region begins there. -/
theorem regionIn_zero {map : List Region} (h : ∀ g ∈ map, 0 ≠ g.base) : regionIn map 0 = .ram := by
  induction map with
  | nil => rfl
  | cons g rest ih =>
    have hg := h g (by simp)
    have e : ¬(g.base ≤ 0 ∧ 0 < g.base + g.size) := by omega
    simp only [regionIn, e, if_false, ih fun g' h' => h g' (by simp [h'])]

/-- `hasDevices` says whether some address is a device register. -/
theorem hasDevices_iff (map : List Region) :
    hasDevices map = true ↔ ∃ a : Word, isDevice (regionIn map a.toNat) = true := by
  rw [hasDevices_iff_boundary]
  constructor
  · rintro ⟨a, -, ha, h⟩
    exact ⟨BitVec.ofNat 32 a, by rwa [BitVec.toNat_ofNat, Nat.mod_eq_of_lt ha]⟩
  · rintro ⟨w, h⟩
    have ha := w.isLt
    generalize w.toNat = a at h ha
    induction a with
    | zero =>
      by_cases hb : ∃ g ∈ map, 0 = g.base ∨ 0 = g.base + g.size
      · exact ⟨0, hb, ha, h⟩
      · rw [regionIn_zero fun g hg e => hb ⟨g, hg, .inl e⟩] at h
        cases h
    | succ a ih =>
      by_cases hb : ∃ g ∈ map, a + 1 = g.base ∨ a + 1 = g.base + g.size
      · exact ⟨a + 1, hb, ha, h⟩
      · rw [regionIn_succ fun g hg => ⟨fun e => hb ⟨g, hg, .inl e⟩, fun e => hb ⟨g, hg, .inr e⟩⟩] at h
        exact ih h (by omega)

/-! ### The accesses: everything each can answer -/

/-- What a read can answer. -/
theorem State.memRead_cases {s : State} {a : Word} {sz : Size} {r : Access (Word × State)} (h : s.memRead a sz = r) :
    (r = .ok (s.valueAt a sz, s) ∧ sz.aligned a ∧ s.region a = .ram) ∨
    (r = .ok (sz.cut (Config.deviceRead s.draws), s.setDraws (s.draws + 1)) ∧ sz.aligned a ∧
      (s.region a = .periph16 ∨ s.region a = .periph8 ∧ sz ≠ .long)) ∨
    (r = .addressError ∧ (sz.aligned a = false ∨ s.region a = .periph8 ∧ sz = .long)) ∨
    (r = .unmapped ∧ sz.aligned a ∧ s.region a = .unmapped) := by
  subst h
  unfold State.memRead
  cases hal : sz.aligned a <;> cases hr : s.region a <;> simp [State.deviceRead]
  by_cases hl : sz = .long <;> simp [hl]

/-- What a write can answer. -/
theorem State.memWrite_cases {s : State} {a v : Word} {sz : Size} {r : Access State} (h : s.memWrite a sz v = r) :
    (r = .ok (s.putValue a v sz) ∧ sz.aligned a ∧ s.region a = .ram) ∨
    (r = .ok (s.deviceWrite a v sz) ∧ sz.aligned a ∧
      (s.region a = .periph16 ∨ s.region a = .periph8 ∧ sz ≠ .long)) ∨
    (r = .addressError ∧ (sz.aligned a = false ∨ s.region a = .periph8 ∧ sz = .long)) ∨
    (r = .unmapped ∧ sz.aligned a ∧ s.region a = .unmapped) := by
  subst h
  unfold State.memWrite
  cases hal : sz.aligned a <;> cases hr : s.region a <;> simp
  by_cases hl : sz = .long <;> simp [hl]

/-- A read changes at most the counter of free values. -/
theorem State.memRead_state {s s' : State} {a v : Word} {sz : Size} (h : s.memRead a sz = .ok (v, s')) :
    s' = s ∨ s' = s.setDraws (s.draws + 1) := by
  rcases State.memRead_cases h with h | h | h | h <;> simp at h <;> simp [h.1]

end Sys2Proof.Machine
end

