-- ==== Sys2Proof/Laws/Ops.lean ====
section
/-! SUPPORT. For each shared operation one lemma that says everything it can do: the accesses case by case, taking an
exception, and what every outcome keeps. -/

namespace Sys2Proof.Machine

/-! ### The accesses of an instruction, case by case -/

theorem Size.aligned_iff (sz : Size) (a : Word) : sz.aligned a = true ↔ a.toNat % sz.bytes = 0 := by
  simp [Size.aligned]

theorem State.memRead_ordinary {s : State} {a : Word} {sz : Size} (h : s.ordinary a sz) :
    s.memRead a sz = .ok (s.valueAt a sz, s) := by
  simp [State.memRead, (Size.aligned_iff sz a).2 h.1, h.2]

theorem State.memRead_device {s : State} {a : Word} {sz : Size} (h : s.device a sz) :
    s.memRead a sz = .ok (sz.cut (Config.deviceRead s.draws), s.setDraws (s.draws + 1)) := by
  rcases h.2 with e | ⟨e, hl⟩ <;> simp [State.memRead, (Size.aligned_iff sz a).2 h.1, e, State.deviceRead]
  simp [hl]

theorem State.memRead_misaccess {s : State} {a : Word} {sz : Size} (h : s.misaccess a sz) :
    s.memRead a sz = .addressError := by
  rcases h with e | ⟨e, rfl⟩
  · simp [State.memRead, Size.aligned, e]
  · simp [State.memRead, e]

theorem State.memRead_unmapped {s : State} {a : Word} {sz : Size} (h : s.unmapped a sz) :
    s.memRead a sz = .unmapped := by
  simp [State.memRead, (Size.aligned_iff sz a).2 h.1, h.2]

theorem State.memWrite_ordinary {s : State} {a : Word} {sz : Size} (h : s.ordinary a sz) (v : Word) :
    s.memWrite a sz v = .ok (s.putValue a v sz) := by
  simp [State.memWrite, (Size.aligned_iff sz a).2 h.1, h.2]

theorem State.memWrite_device {s : State} {a : Word} {sz : Size} (h : s.device a sz) (v : Word) :
    s.memWrite a sz v = .ok (s.deviceWrite a v sz) := by
  rcases h.2 with e | ⟨e, hl⟩ <;> simp [State.memWrite, (Size.aligned_iff sz a).2 h.1, e]
  simp [hl]

theorem State.memWrite_misaccess {s : State} {a : Word} {sz : Size} (h : s.misaccess a sz) (v : Word) :
    s.memWrite a sz v = .addressError := by
  rcases h with e | ⟨e, rfl⟩
  · simp [State.memWrite, Size.aligned, e]
  · simp [State.memWrite, e]

theorem State.memWrite_unmapped {s : State} {a : Word} {sz : Size} (h : s.unmapped a sz) (v : Word) :
    s.memWrite a sz v = .unmapped := by
  simp [State.memWrite, (Size.aligned_iff sz a).2 h.1, h.2]

/-- Every access is one of four: ordinary memory, a device register, an address error, an unmapped address. -/
theorem State.access_cases (s : State) (a : Word) (sz : Size) :
    s.ordinary a sz ∨ s.device a sz ∨ s.misaccess a sz ∨ s.unmapped a sz := by
  unfold State.ordinary State.device State.misaccess State.unmapped
  by_cases h : a.toNat % sz.bytes = 0 <;> cases hr : s.region a <;> simp [h]
  exact em' (sz = .long)

theorem State.load_ordinary {s : State} {a : Word} {sz : Size} (h : s.ordinary a sz) (k : Word → State → Result) :
    s.load a sz k = k (s.valueAt a sz) s := by
  simp [State.load, State.memRead_ordinary h]

theorem State.load_device {s : State} {a : Word} {sz : Size} (h : s.device a sz) (k : Word → State → Result) :
    s.load a sz k = k (sz.cut (Config.deviceRead s.draws)) (s.setDraws (s.draws + 1)) := by
  simp [State.load, State.memRead_device h]

theorem State.load_misaccess {s : State} {a : Word} {sz : Size} (h : s.misaccess a sz) (k : Word → State → Result) :
    s.load a sz k = s.addressError := by
  simp [State.load, State.memRead_misaccess h]

theorem State.load_unmapped {s : State} {a : Word} {sz : Size} (h : s.unmapped a sz) (k : Word → State → Result) :
    s.load a sz k = .fault .unmappedAccess := by
  simp [State.load, State.memRead_unmapped h]

theorem State.store_ordinary {s : State} {a : Word} {sz : Size} (h : s.ordinary a sz) (v : Word) (k : State → Result) :
    s.store a sz v k = k (s.putValue a v sz) := by
  simp [State.store, State.memWrite_ordinary h]

theorem State.store_device {s : State} {a : Word} {sz : Size} (h : s.device a sz) (v : Word) (k : State → Result) :
    s.store a sz v k = k (s.deviceWrite a v sz) := by
  simp [State.store, State.memWrite_device h]

theorem State.store_misaccess {s : State} {a : Word} {sz : Size} (h : s.misaccess a sz) (v : Word)
    (k : State → Result) : s.store a sz v k = s.addressError := by
  simp [State.store, State.memWrite_misaccess h]

theorem State.store_unmapped {s : State} {a : Word} {sz : Size} (h : s.unmapped a sz) (v : Word) (k : State → Result) :
    s.store a sz v k = .fault .unmappedAccess := by
  simp [State.store, State.memWrite_unmapped h]

theorem State.entryLoad_ordinary {s : State} {a : Word} (h : s.ordinary a .long) (k : Word → State → Result) :
    s.entryLoad a k = k (s.longAt a) s := by
  simp [State.entryLoad, State.memRead_ordinary h, State.valueAt]

theorem State.entryStore_ordinary {s : State} {a : Word} (h : s.ordinary a .long) (v : Word) (k : State → Result) :
    s.entryStore a v k = k (s.putValue a v .long) := by
  simp [State.entryStore, State.memWrite_ordinary h]

theorem State.entryLoad_misaccess {s : State} {a : Word} (h : s.misaccess a .long) (k : Word → State → Result) :
    s.entryLoad a k = .fault .addressErrorInEntry := by
  simp [State.entryLoad, State.memRead_misaccess h]

theorem State.entryStore_misaccess {s : State} {a : Word} (h : s.misaccess a .long) (v : Word) (k : State → Result) :
    s.entryStore a v k = .fault .addressErrorInEntry := by
  simp [State.entryStore, State.memWrite_misaccess h]

/-- Where an exception is entered with its stack and vector in ordinary memory, the state it gives. -/
theorem State.enterException_ordinary {s : State} {v : BitVec 8} (spc : Word) (mask : Option (BitVec 4))
    (h : s.canEnter v) :
    s.enterException v spc mask = .next ((((((s.setReg Reg.sp (s.reg Reg.sp - 4)).putValue (s.reg Reg.sp - 4)
      s.sr.toWord .long).setReg Reg.sp (s.reg Reg.sp - 8)).putValue (s.reg Reg.sp - 8) spc .long).setMask mask).enterHandler
      (((((s.setReg Reg.sp (s.reg Reg.sp - 4)).putValue (s.reg Reg.sp - 4) s.sr.toWord .long).setReg Reg.sp
        (s.reg Reg.sp - 8)).putValue (s.reg Reg.sp - 8) spc .long).longAt (s.vectorAddress v))) := by
  obtain ⟨h1, h2, h3⟩ := h
  have e : s.reg Reg.sp - 4 - 4 = s.reg Reg.sp - 8 := by bv_omega
  simp only [State.ordinary] at h1 h2 h3
  unfold State.enterException State.entryPush
  rw [State.entryStore_ordinary (by simpa [State.ordinary] using h1)]
  simp only [State.putValue_reg, State.reg_setReg_self, e]
  rw [State.entryStore_ordinary (by simpa [State.ordinary] using h2)]
  rw [State.entryLoad_ordinary (by simpa [State.ordinary, State.vectorAddress] using h3)]
  simp [State.vectorAddress, State.longAt, State.wordAt]

/-! ### What SLEEP reads, and what an event finds at a boundary -/

/-- The SBY bit as SLEEP reads it. -/
theorem State.standbyBit_iff (s : State) : s.standbyBit = true ↔ s.sby = true ∧ ∃ a, s.deviceAt a := by
  have e : ∀ k, isDevice k = true ↔ k = .periph8 ∨ k = .periph16 := fun k => by cases k <;> decide
  simp only [State.standbyBit, Bool.and_eq_true, hasDevices_iff, e, State.deviceAt, State.region]

/-- Where an event may be accepted, the next instruction is not one the model refuses. -/
theorem State.mayAccept_nextDisputed {s : State} (h : s.mayAccept) : s.nextDisputed = false := by
  obtain ⟨-, -, h⟩ := h
  cases hu : s.afterUntaken
  · simp [State.nextDisputed, hu]
  · simp only [State.nextDisputed, hu, Bool.true_and]
    split
    · next code hf =>
      unfold State.instrFetch at hf
      split at hf
      · next ha =>
        split at hf <;> cases hf
        next hr =>
        obtain ⟨i, hi, h1, h2⟩ := h hu ⟨by simpa [Size.aligned] using ha, hr⟩
        simp only [State.wordAt, hi, h1, h2, Bool.not_true, Bool.or_self]
      · cases hf
    · rfl

/-- Another bus master's writes: the last one to an address is what it holds. -/
theorem State.byteAt_busWrite (s : State) (ws : List (Word × Byte)) (a : Word) :
    (s.busWrite ws).byteAt a = ws.foldl (fun v w => if w.1 = a then w.2 else v) (s.byteAt a) := by
  induction ws generalizing s with
  | nil => rfl
  | cons w rest ih =>
    simp only [State.busWrite, ih, List.foldl_cons, State.byteAt_setByte, eq_comm]

/-- Another bus master's writes change memory alone. -/
theorem State.busWrite_eq (s : State) (ws : List (Word × Byte)) :
    s.busWrite ws = { s with mem := (s.busWrite ws).mem } := by
  induction ws generalizing s with
  | nil => rfl
  | cons w rest ih => exact (ih (s.setByte w.1 w.2)).trans rfl

/-- The highest request is one of the requests. -/
theorem highestRequest_mem {requests : List Request} {q : Request} (h : highestRequest requests = some q) :
    q ∈ requests := by
  induction requests generalizing q with
  | nil => cases h
  | cons a rest ih =>
    simp only [highestRequest] at h
    split at h
    · cases h
      exact List.mem_cons_self
    · next q' hq =>
      split at h <;> cases h
      · exact List.mem_cons_of_mem _ (ih hq)
      · exact List.mem_cons_self

/-- The request accepted among several: the first of those of the highest level. -/
theorem highestRequest_eq {before later : List Request} {q : Request} (hb : ∀ q' ∈ before, q'.level < q.level)
    (hl : ∀ q' ∈ later, q'.level ≤ q.level) : highestRequest (before ++ q :: later) = some q := by
  induction before with
  | nil =>
    simp only [List.nil_append, highestRequest]
    split
    · rfl
    · next q' h => rw [if_neg (Nat.not_lt.2 (hl q' (highestRequest_mem h)))]
  | cons a rest ih =>
    simp only [List.cons_append, highestRequest, ih fun q' h => hb q' (by simp [h])]
    rw [if_pos (hb a (by simp))]

/-- No event is accepted where none passes or the test is not made. -/
theorem State.asyncEvent_idle {s : State} {e : EnvInput} (h : e.idleFor s) : s.asyncEvent e = none := by
  obtain ⟨-, -, h⟩ := h
  unfold State.asyncEvent State.testMade
  rcases h with h | h | ⟨hd, hq⟩
  · obtain ⟨d, hs⟩ := Option.ne_none_iff_exists'.1 h
    simp [hs]
  · simp [h]
  · cases hr : highestRequest e.requests with
    | none => simp [hd]
    | some q =>
      have : q.passes s.sr.i = false := by
        simpa [Request.passes] using hq q (highestRequest_mem hr)
      simp [hd, this]

/-- The boundary of a state whose environment's entry asks for no reset, outside program execution. -/
theorem State.boundary_of_otherMode {s : State} {e : EnvInput} {rest : List EnvInput} {r : Result}
    (hi : s.inputs = e :: rest) (hr : e.reset = none) (h : (s.after e rest).otherMode e = some r) :
    s.boundary = .done r := by
  have ht : s.takeInput = (e, s.after e rest) := by rw [State.takeInput, hi]; rfl
  simp only [State.boundary, ht, hr, h]

/-- The same in program execution. -/
theorem State.boundary_of_programExecution {s : State} {e : EnvInput} {rest : List EnvInput}
    (hi : s.inputs = e :: rest) (hr : e.reset = none) (hm : s.mode = .programExecution) :
    s.boundary = (s.after e rest).programBoundary e := by
  have ht : s.takeInput = (e, s.after e rest) := by rw [State.takeInput, hi]; rfl
  have hm' : (s.after e rest).mode = .programExecution := hm
  simp only [State.boundary, ht, hr, State.otherMode, hm']

/-- Where nothing from outside turns a step of program execution aside, the instruction at `pc` is next. -/
theorem State.boundary_of_idleAt {s u : State} (hm : s.mode = .programExecution) (h : s.idleAt u) :
    s.boundary = .run u := by
  rcases h with ⟨hi, rfl⟩ | ⟨e, rest, hi, he, rfl⟩
  · have ht : u.takeInput = (.quiet, u) := by rw [State.takeInput, hi]
    have hq : u.asyncEvent .quiet = none := by simp [State.asyncEvent, EnvInput.quiet, highestRequest]
    have hr : EnvInput.quiet.reset = none := rfl
    have hb : EnvInput.quiet.busRequest = false := rfl
    simp only [State.boundary, ht, hr, State.otherMode, hm, State.programBoundary, hb, hq, Bool.false_eq_true, if_false]
  · have ha : (s.after e rest).asyncEvent e = none := State.asyncEvent_idle he
    rw [State.boundary_of_programExecution hi he.1 hm]
    simp only [State.programBoundary, he.2.1, ha, Bool.false_eq_true, if_false]

/-- A step that the boundary decides. -/
theorem step_of_boundary_done {s : State} {r : Result} (h : s.boundary = .done r) : step s = r := by
  simp only [step, h]

/-- A step whose fetch is decided without an instruction. -/
theorem step_of_fetched_done {s u : State} {r : Result} (h : s.boundary = .run u) (hf : u.fetchDecode = .done r) :
    step s = r := by
  simp only [step, h, hf]

/-- A step that runs an instruction. -/
theorem step_of_fetched_instr {s u : State} {i : Instr} (h : s.boundary = .run u) (hf : u.fetchDecode = .instr i) :
    step s = exec i u := by
  simp only [step, h, hf]

/-! ### What every outcome keeps -/

/-- A property of the next state, if there is one. -/
def NextHas (P : State → Prop) : Result → Prop
  | .next t => P t
  | .fault _ => True
  | .refused _ => True

@[simp] theorem NextHas_next (P : State → Prop) (t : State) : NextHas P (.next t) = P t := rfl
@[simp] theorem NextHas_fault (P : State → Prop) (f : Fault) : NextHas P (.fault f) = True := rfl
@[simp] theorem NextHas_refused (P : State → Prop) (f : Refusal) : NextHas P (.refused f) = True := rfl

theorem State.load_has {P : State → Prop} {s : State} {a : Word} {sz : Size} {k : Word → State → Result}
    (hk : ∀ v d, NextHas P (k v (s.setDraws d))) (he : NextHas P s.addressError) : NextHas P (s.load a sz k) := by
  rcases s.access_cases a sz with h | h | h | h
  · rw [State.load_ordinary h]; exact hk _ s.draws
  · rw [State.load_device h]; exact hk _ _
  · rw [State.load_misaccess h]; exact he
  · rw [State.load_unmapped h]; trivial

theorem State.store_has {P : State → Prop} {s : State} {a v : Word} {sz : Size} {k : State → Result}
    (hk : NextHas P (k (s.putValue a v sz))) (hd : NextHas P (k (s.deviceWrite a v sz)))
    (he : NextHas P s.addressError) : NextHas P (s.store a sz v k) := by
  rcases s.access_cases a sz with h | h | h | h
  · rw [State.store_ordinary h]; exact hk
  · rw [State.store_device h]; exact hd
  · rw [State.store_misaccess h]; exact he
  · rw [State.store_unmapped h]; trivial

theorem State.entryLoad_has {P : State → Prop} {s : State} {a : Word} {k : Word → State → Result}
    (hk : ∀ v d, NextHas P (k v (s.setDraws d))) : NextHas P (s.entryLoad a k) := by
  unfold State.entryLoad
  split
  · next v s' h =>
    rcases State.memRead_state h with rfl | rfl
    · exact hk v s'.draws
    · exact hk v _
  · trivial
  · trivial

theorem State.entryStore_has {P : State → Prop} {s : State} {a v : Word} {k : State → Result}
    (hk : NextHas P (k (s.putValue a v .long))) (hd : NextHas P (k (s.deviceWrite a v .long))) :
    NextHas P (s.entryStore a v k) := by
  rcases s.access_cases a .long with h | h | h | h
  · rw [State.entryStore_ordinary h]; exact hk
  · simp only [State.entryStore, State.memWrite_device h]; exact hd
  · rw [State.entryStore_misaccess h]; trivial
  · simp [State.entryStore, State.memWrite_unmapped h]

/-- What every exception leaves: no branch pending, no window, program execution, the registers but R15, SR but the
mask, the parameters, and memory in its canonical form. -/
theorem State.enterException_keeps (s : State) (v : BitVec 8) (spc : Word) (mask : Option (BitVec 4)) :
    NextHas (fun t => t.slot = none ∧ t.inhibit = false ∧ t.afterUntaken = false ∧ t.mode = .programExecution ∧
      (∀ k, k ≠ Reg.sp → t.reg k = s.reg k) ∧ t.sr = (s.setMask mask).sr ∧ t.gbr = s.gbr ∧ t.vbr = s.vbr ∧
      t.mach = s.mach ∧ t.macl = s.macl ∧ t.pr = s.pr ∧ t.params = s.params ∧ t.inputs = s.inputs ∧ t.sby = s.sby ∧
      (Memory.wf s.mem = true → Memory.wf t.mem = true)) (s.enterException v spc mask) := by
  unfold State.enterException State.entryPush
  refine State.entryStore_has (State.entryStore_has (State.entryLoad_has fun w d => ?_)
    (State.entryLoad_has fun w d => ?_)) (State.entryStore_has (State.entryLoad_has fun w d => ?_)
    (State.entryLoad_has fun w d => ?_)) <;>
  · simp +contextual only [NextHas_next, State.enterHandler_slot]
    simp +contextual [State.setMask_sr, State.wf_putValue]

end Sys2Proof.Machine
end

