-- ==== Sys2Proof/Laws/Frame.lean ====
section
/-! SUPPORT. What the updates of the state do to a frame, and to the end of an instruction. -/

namespace Sys2Proof.Machine

theorem Frame.refl (s : State) (regs : List Reg) (bytes : List Word) : Frame s s regs bytes :=
  ⟨fun _ _ => rfl, rfl, rfl, rfl, rfl, rfl, rfl, fun _ _ => rfl, rfl, rfl, rfl, rfl, rfl⟩

theorem Frame.advance {s t : State} {regs : List Reg} {bytes : List Word} (h : Frame s t regs bytes) :
    Frame s t.advance regs bytes :=
  ⟨h.regs, h.gbr, h.vbr, h.mach, h.macl, h.pr, h.mode, h.memory, h.params, h.inputs, h.sby, h.deviceWrites, h.draws⟩

theorem Frame.advanceInhibit {s t : State} {regs : List Reg} {bytes : List Word} (h : Frame s t regs bytes) :
    Frame s t.advanceInhibit regs bytes :=
  ⟨h.regs, h.gbr, h.vbr, h.mach, h.macl, h.pr, h.mode, h.memory, h.params, h.inputs, h.sby, h.deviceWrites, h.draws⟩

theorem Frame.advanceUntaken {s t : State} {regs : List Reg} {bytes : List Word} (h : Frame s t regs bytes) :
    Frame s t.advanceUntaken regs bytes :=
  ⟨h.regs, h.gbr, h.vbr, h.mach, h.macl, h.pr, h.mode, h.memory, h.params, h.inputs, h.sby, h.deviceWrites, h.draws⟩

theorem Frame.branch {s t : State} {regs : List Reg} {bytes : List Word} (h : Frame s t regs bytes) (a : Word) :
    Frame s (t.branch a) regs bytes :=
  ⟨h.regs, h.gbr, h.vbr, h.mach, h.macl, h.pr, h.mode, h.memory, h.params, h.inputs, h.sby, h.deviceWrites, h.draws⟩

theorem Frame.delayedBranch {s t : State} {regs : List Reg} {bytes : List Word} (h : Frame s t regs bytes)
    (a : Word) : Frame s (t.delayedBranch a) regs bytes :=
  ⟨h.regs, h.gbr, h.vbr, h.mach, h.macl, h.pr, h.mode, h.memory, h.params, h.inputs, h.sby, h.deviceWrites, h.draws⟩

theorem Frame.setReg {s t : State} {regs : List Reg} {bytes : List Word} (h : Frame s t regs bytes) {n : Reg}
    (hn : n ∈ regs) (v : Word) : Frame s (t.setReg n v) regs bytes :=
  ⟨fun k hk => (State.reg_setReg_ne _ _ _ _ fun e => hk (by rw [e]; exact hn)).trans (h.regs k hk), h.gbr, h.vbr, h.mach,
    h.macl, h.pr, h.mode, h.memory, h.params, h.inputs, h.sby, h.deviceWrites, h.draws⟩

theorem Frame.setT {s t : State} {regs : List Reg} {bytes : List Word} (h : Frame s t regs bytes) (b : Bool) :
    Frame s (t.setT b) regs bytes :=
  ⟨h.regs, h.gbr, h.vbr, h.mach, h.macl, h.pr, h.mode, h.memory, h.params, h.inputs, h.sby, h.deviceWrites, h.draws⟩

theorem Frame.setQT {s t : State} {regs : List Reg} {bytes : List Word} (h : Frame s t regs bytes) (q b : Bool) :
    Frame s (t.setQT q b) regs bytes :=
  ⟨h.regs, h.gbr, h.vbr, h.mach, h.macl, h.pr, h.mode, h.memory, h.params, h.inputs, h.sby, h.deviceWrites, h.draws⟩

theorem Frame.setMQT {s t : State} {regs : List Reg} {bytes : List Word} (h : Frame s t regs bytes) (m q b : Bool) :
    Frame s (t.setMQT m q b) regs bytes :=
  ⟨h.regs, h.gbr, h.vbr, h.mach, h.macl, h.pr, h.mode, h.memory, h.params, h.inputs, h.sby, h.deviceWrites, h.draws⟩

theorem Frame.setSr {s t : State} {regs : List Reg} {bytes : List Word} (h : Frame s t regs bytes) (v : Word) :
    Frame s (t.setSr v) regs bytes :=
  ⟨h.regs, h.gbr, h.vbr, h.mach, h.macl, h.pr, h.mode, h.memory, h.params, h.inputs, h.sby, h.deviceWrites, h.draws⟩

theorem Frame.putValue {s t : State} {regs : List Reg} {bytes : List Word} (h : Frame s t regs bytes) {a : Word}
    {sz : Size} (ha : ∀ b ∈ sz.span a, b ∈ bytes) (v : Word) : Frame s (t.putValue a v sz) regs bytes :=
  ⟨fun k hk => by simpa using h.regs k hk, by simpa using h.gbr, by simpa using h.vbr, by simpa using h.mach,
    by simpa using h.macl, by simpa using h.pr, by simpa using h.mode,
    fun b hb => by rw [State.byteAt_putValue_outside _ _ _ _ _ fun e => hb (ha b e)]; exact h.memory b hb,
    by simpa using h.params, by simpa using h.inputs, by simpa using h.sby, by simpa using h.deviceWrites,
    by simpa using h.draws⟩

theorem Frame.deviceWrite {s t : State} {regs : List Reg} {bytes : List Word} (h : Frame s t regs bytes)
    (a v : Word) (sz : Size) :
    Frame { s with deviceWrites := { addr := a, size := sz, value := sz.cut v } :: s.deviceWrites }
      (t.deviceWrite a v sz) regs bytes :=
  ⟨h.regs, h.gbr, h.vbr, h.mach, h.macl, h.pr, h.mode, h.memory, h.params, h.inputs, h.sby,
    by simp [h.deviceWrites], h.draws⟩

theorem Frame.setDraws {s t : State} {regs : List Reg} {bytes : List Word} (h : Frame s t regs bytes) (d : Nat) :
    Frame { s with draws := d } (t.setDraws d) regs bytes :=
  ⟨h.regs, h.gbr, h.vbr, h.mach, h.macl, h.pr, h.mode, h.memory, h.params, h.inputs, h.sby, h.deviceWrites, rfl⟩

/-- The completion of an instruction whose effect left `pc` and the pending branch. -/
theorem Sequential.of_advance {s t : State} (hp : t.pc = s.pc) (hs : t.slot = s.slot) : Sequential s t.advance false :=
  ⟨by cases h : s.slot <;> simp [State.nextPc, hp, hs, h], rfl, rfl, rfl⟩

/-- The completion of an interrupt-disabled instruction whose effect left `pc` and the pending branch. -/
theorem Sequential.of_advanceInhibit {s t : State} (hp : t.pc = s.pc) (hs : t.slot = s.slot) :
    Sequential s t.advanceInhibit true :=
  ⟨by cases h : s.slot <;> simp [State.nextPc, hp, hs, h], rfl, rfl, rfl⟩

/-- Cutting a zero-extended value gives it back. -/
theorem extractLsb'_zeroExtend {w : Nat} (x : BitVec w) (h : w ≤ 32) : (x.zeroExtend 32).extractLsb' 0 w = x := by
  apply BitVec.eq_of_getLsbD_eq
  intro i hi
  simp only [BitVec.getLsbD_extractLsb', BitVec.zeroExtend, BitVec.getLsbD_setWidth]
  simp [hi]
  omega

/-- A read of memory as the statements say it. -/
theorem State.held_eq (s : State) (a : Word) (sz : Size) : sz.signExtend (s.valueAt a sz) = s.held a sz := by
  cases sz
  · simp only [Size.signExtend, State.valueAt, State.held, extractLsb'_zeroExtend _ (by omega : 8 ≤ 32)]
  · simp only [Size.signExtend, State.valueAt, State.held, State.wordAt,
      extractLsb'_zeroExtend _ (by omega : 8 + 8 ≤ 32)]
  · have h1 : a + 2 + 1 = a + 3 := by bv_omega
    simp only [Size.signExtend, State.valueAt, State.held, State.longAt, State.wordAt, h1]
    apply BitVec.eq_of_getLsbD_eq
    intro i hi
    simp only [BitVec.getLsbD_append]
    split_ifs <;> first | omega | rfl

/-- A longword reads as its four bytes. -/
theorem State.longAt_eq_held (s : State) (a : Word) : s.longAt a = s.held a .long :=
  s.held_eq a .long

/-- The bytes of a value written, most significant first. -/
theorem State.bytes_putValue (s : State) (a v : Word) (sz : Size) (k : Nat) (hk : k < sz.bytes) :
    (s.putValue a v sz).byteAt (a + BitVec.ofNat 32 k) = v.extractLsb' (8 * (sz.bytes - 1 - k)) 8 := by
  have h1 : a ≠ a + 1 := by bv_omega
  have h2 : a ≠ a + 2 := by bv_omega
  have h3 : a ≠ a + 3 := by bv_omega
  have h4 : a + 1 ≠ a + 2 := by bv_omega
  have h5 : a + 1 ≠ a + 3 := by bv_omega
  have h6 : a + 2 ≠ a + 3 := by bv_omega
  cases sz <;> simp only [Size.bytes] at hk
  · obtain rfl : k = 0 := by omega
    simp [State.putValue, State.byteAt_setByte, Size.bytes, byteOf]
  · obtain rfl | rfl : k = 0 ∨ k = 1 := by omega
    · simp [State.putValue, State.byteAt_setByte, Size.bytes, byteOf]
    · simp [State.putValue, State.byteAt_setByte, Size.bytes, byteOf]
  · obtain rfl | rfl | rfl | rfl : k = 0 ∨ k = 1 ∨ k = 2 ∨ k = 3 := by omega
    all_goals simp_all [State.putValue, State.byteAt_setByte, Size.bytes, byteOf]

end Sys2Proof.Machine
end

