-- ==== Sys2Proof/Laws/PerInstr.lean ====
section
/-! SUPPORT. Per instruction: its code has the fixed bits that its row of spec/opcode_table.json gives, whatever its
operands. -/

namespace Sys2Proof.Laws

/-- The mask of an instruction's row of the opcode table. -/
def Encoding.rowMask : Instr → Code
  | .movReg _ _ => ofNibbles 0xF 0x0 0x0 0xF
  | .movBStore _ _ => ofNibbles 0xF 0x0 0x0 0xF
  | .movWStore _ _ => ofNibbles 0xF 0x0 0x0 0xF
  | .movLStore _ _ => ofNibbles 0xF 0x0 0x0 0xF
  | .movBLoad _ _ => ofNibbles 0xF 0x0 0x0 0xF
  | .movWLoad _ _ => ofNibbles 0xF 0x0 0x0 0xF
  | .movLLoad _ _ => ofNibbles 0xF 0x0 0x0 0xF
  | .movBStoreDec _ _ => ofNibbles 0xF 0x0 0x0 0xF
  | .movWStoreDec _ _ => ofNibbles 0xF 0x0 0x0 0xF
  | .movLStoreDec _ _ => ofNibbles 0xF 0x0 0x0 0xF
  | .movBLoadInc _ _ => ofNibbles 0xF 0x0 0x0 0xF
  | .movWLoadInc _ _ => ofNibbles 0xF 0x0 0x0 0xF
  | .movLLoadInc _ _ => ofNibbles 0xF 0x0 0x0 0xF
  | .movBStoreIdx _ _ => ofNibbles 0xF 0x0 0x0 0xF
  | .movWStoreIdx _ _ => ofNibbles 0xF 0x0 0x0 0xF
  | .movLStoreIdx _ _ => ofNibbles 0xF 0x0 0x0 0xF
  | .movBLoadIdx _ _ => ofNibbles 0xF 0x0 0x0 0xF
  | .movWLoadIdx _ _ => ofNibbles 0xF 0x0 0x0 0xF
  | .movLLoadIdx _ _ => ofNibbles 0xF 0x0 0x0 0xF
  | .movImm _ _ => ofNibbles 0xF 0x0 0x0 0x0
  | .movWLoadPc _ _ => ofNibbles 0xF 0x0 0x0 0x0
  | .movLLoadPc _ _ => ofNibbles 0xF 0x0 0x0 0x0
  | .movBLoadGbr _ => ofNibbles 0xF 0xF 0x0 0x0
  | .movWLoadGbr _ => ofNibbles 0xF 0xF 0x0 0x0
  | .movLLoadGbr _ => ofNibbles 0xF 0xF 0x0 0x0
  | .movBStoreGbr _ => ofNibbles 0xF 0xF 0x0 0x0
  | .movWStoreGbr _ => ofNibbles 0xF 0xF 0x0 0x0
  | .movLStoreGbr _ => ofNibbles 0xF 0xF 0x0 0x0
  | .movBStoreDisp _ _ => ofNibbles 0xF 0xF 0x0 0x0
  | .movWStoreDisp _ _ => ofNibbles 0xF 0xF 0x0 0x0
  | .movLStoreDisp _ _ _ => ofNibbles 0xF 0x0 0x0 0x0
  | .movBLoadDisp _ _ => ofNibbles 0xF 0xF 0x0 0x0
  | .movWLoadDisp _ _ => ofNibbles 0xF 0xF 0x0 0x0
  | .movLLoadDisp _ _ _ => ofNibbles 0xF 0x0 0x0 0x0
  | .mova _ => ofNibbles 0xF 0xF 0x0 0x0
  | .movt _ => ofNibbles 0xF 0x0 0xF 0xF
  | .swapB _ _ => ofNibbles 0xF 0x0 0x0 0xF
  | .swapW _ _ => ofNibbles 0xF 0x0 0x0 0xF
  | .xtrct _ _ => ofNibbles 0xF 0x0 0x0 0xF
  | .add _ _ => ofNibbles 0xF 0x0 0x0 0xF
  | .addImm _ _ => ofNibbles 0xF 0x0 0x0 0x0
  | .addc _ _ => ofNibbles 0xF 0x0 0x0 0xF
  | .addv _ _ => ofNibbles 0xF 0x0 0x0 0xF
  | .cmpEqImm _ => ofNibbles 0xF 0xF 0x0 0x0
  | .cmpEq _ _ => ofNibbles 0xF 0x0 0x0 0xF
  | .cmpHs _ _ => ofNibbles 0xF 0x0 0x0 0xF
  | .cmpGe _ _ => ofNibbles 0xF 0x0 0x0 0xF
  | .cmpHi _ _ => ofNibbles 0xF 0x0 0x0 0xF
  | .cmpGt _ _ => ofNibbles 0xF 0x0 0x0 0xF
  | .cmpPl _ => ofNibbles 0xF 0x0 0xF 0xF
  | .cmpPz _ => ofNibbles 0xF 0x0 0xF 0xF
  | .cmpStr _ _ => ofNibbles 0xF 0x0 0x0 0xF
  | .div0s _ _ => ofNibbles 0xF 0x0 0x0 0xF
  | .div0u => ofNibbles 0xF 0xF 0xF 0xF
  | .div1 _ _ => ofNibbles 0xF 0x0 0x0 0xF
  | .dt _ => ofNibbles 0xF 0x0 0xF 0xF
  | .extsB _ _ => ofNibbles 0xF 0x0 0x0 0xF
  | .extsW _ _ => ofNibbles 0xF 0x0 0x0 0xF
  | .extuB _ _ => ofNibbles 0xF 0x0 0x0 0xF
  | .extuW _ _ => ofNibbles 0xF 0x0 0x0 0xF
  | .neg _ _ => ofNibbles 0xF 0x0 0x0 0xF
  | .negc _ _ => ofNibbles 0xF 0x0 0x0 0xF
  | .sub _ _ => ofNibbles 0xF 0x0 0x0 0xF
  | .subc _ _ => ofNibbles 0xF 0x0 0x0 0xF
  | .subv _ _ => ofNibbles 0xF 0x0 0x0 0xF
  | .dmulsL _ _ => ofNibbles 0xF 0x0 0x0 0xF
  | .dmuluL _ _ => ofNibbles 0xF 0x0 0x0 0xF
  | .mulL _ _ => ofNibbles 0xF 0x0 0x0 0xF
  | .mulsW _ _ => ofNibbles 0xF 0x0 0x0 0xF
  | .muluW _ _ => ofNibbles 0xF 0x0 0x0 0xF
  | .macL _ _ => ofNibbles 0xF 0x0 0x0 0xF
  | .macW _ _ => ofNibbles 0xF 0x0 0x0 0xF
  | .andReg _ _ => ofNibbles 0xF 0x0 0x0 0xF
  | .andImm _ => ofNibbles 0xF 0xF 0x0 0x0
  | .andMem _ => ofNibbles 0xF 0xF 0x0 0x0
  | .notReg _ _ => ofNibbles 0xF 0x0 0x0 0xF
  | .tas _ => ofNibbles 0xF 0x0 0xF 0xF
  | .orReg _ _ => ofNibbles 0xF 0x0 0x0 0xF
  | .orImm _ => ofNibbles 0xF 0xF 0x0 0x0
  | .orMem _ => ofNibbles 0xF 0xF 0x0 0x0
  | .tstReg _ _ => ofNibbles 0xF 0x0 0x0 0xF
  | .tstImm _ => ofNibbles 0xF 0xF 0x0 0x0
  | .tstMem _ => ofNibbles 0xF 0xF 0x0 0x0
  | .xorReg _ _ => ofNibbles 0xF 0x0 0x0 0xF
  | .xorImm _ => ofNibbles 0xF 0xF 0x0 0x0
  | .xorMem _ => ofNibbles 0xF 0xF 0x0 0x0
  | .rotl _ => ofNibbles 0xF 0x0 0xF 0xF
  | .rotr _ => ofNibbles 0xF 0x0 0xF 0xF
  | .rotcl _ => ofNibbles 0xF 0x0 0xF 0xF
  | .rotcr _ => ofNibbles 0xF 0x0 0xF 0xF
  | .shal _ => ofNibbles 0xF 0x0 0xF 0xF
  | .shar _ => ofNibbles 0xF 0x0 0xF 0xF
  | .shll _ => ofNibbles 0xF 0x0 0xF 0xF
  | .shlr _ => ofNibbles 0xF 0x0 0xF 0xF
  | .shll2 _ => ofNibbles 0xF 0x0 0xF 0xF
  | .shll8 _ => ofNibbles 0xF 0x0 0xF 0xF
  | .shll16 _ => ofNibbles 0xF 0x0 0xF 0xF
  | .shlr2 _ => ofNibbles 0xF 0x0 0xF 0xF
  | .shlr8 _ => ofNibbles 0xF 0x0 0xF 0xF
  | .shlr16 _ => ofNibbles 0xF 0x0 0xF 0xF
  | .bf _ => ofNibbles 0xF 0xF 0x0 0x0
  | .bfS _ => ofNibbles 0xF 0xF 0x0 0x0
  | .bt _ => ofNibbles 0xF 0xF 0x0 0x0
  | .btS _ => ofNibbles 0xF 0xF 0x0 0x0
  | .bra _ => ofNibbles 0xF 0x0 0x0 0x0
  | .braf _ => ofNibbles 0xF 0x0 0xF 0xF
  | .bsr _ => ofNibbles 0xF 0x0 0x0 0x0
  | .bsrf _ => ofNibbles 0xF 0x0 0xF 0xF
  | .jmp _ => ofNibbles 0xF 0x0 0xF 0xF
  | .jsr _ => ofNibbles 0xF 0x0 0xF 0xF
  | .rts => ofNibbles 0xF 0xF 0xF 0xF
  | .clrt => ofNibbles 0xF 0xF 0xF 0xF
  | .clrmac => ofNibbles 0xF 0xF 0xF 0xF
  | .ldcSr _ => ofNibbles 0xF 0x0 0xF 0xF
  | .ldcLSr _ => ofNibbles 0xF 0x0 0xF 0xF
  | .ldcGbr _ => ofNibbles 0xF 0x0 0xF 0xF
  | .ldcLGbr _ => ofNibbles 0xF 0x0 0xF 0xF
  | .ldcVbr _ => ofNibbles 0xF 0x0 0xF 0xF
  | .ldcLVbr _ => ofNibbles 0xF 0x0 0xF 0xF
  | .ldsMach _ => ofNibbles 0xF 0x0 0xF 0xF
  | .ldsLMach _ => ofNibbles 0xF 0x0 0xF 0xF
  | .ldsMacl _ => ofNibbles 0xF 0x0 0xF 0xF
  | .ldsLMacl _ => ofNibbles 0xF 0x0 0xF 0xF
  | .ldsPr _ => ofNibbles 0xF 0x0 0xF 0xF
  | .ldsLPr _ => ofNibbles 0xF 0x0 0xF 0xF
  | .nop => ofNibbles 0xF 0xF 0xF 0xF
  | .rte => ofNibbles 0xF 0xF 0xF 0xF
  | .sett => ofNibbles 0xF 0xF 0xF 0xF
  | .sleep => ofNibbles 0xF 0xF 0xF 0xF
  | .stcSr _ => ofNibbles 0xF 0x0 0xF 0xF
  | .stcLSr _ => ofNibbles 0xF 0x0 0xF 0xF
  | .stcGbr _ => ofNibbles 0xF 0x0 0xF 0xF
  | .stcLGbr _ => ofNibbles 0xF 0x0 0xF 0xF
  | .stcVbr _ => ofNibbles 0xF 0x0 0xF 0xF
  | .stcLVbr _ => ofNibbles 0xF 0x0 0xF 0xF
  | .stsMach _ => ofNibbles 0xF 0x0 0xF 0xF
  | .stsLMach _ => ofNibbles 0xF 0x0 0xF 0xF
  | .stsMacl _ => ofNibbles 0xF 0x0 0xF 0xF
  | .stsLMacl _ => ofNibbles 0xF 0x0 0xF 0xF
  | .stsPr _ => ofNibbles 0xF 0x0 0xF 0xF
  | .stsLPr _ => ofNibbles 0xF 0x0 0xF 0xF
  | .trapa _ => ofNibbles 0xF 0xF 0x0 0x0

/-- The match value of an instruction's row of the opcode table. -/
def Encoding.rowMatch : Instr → Code
  | .movReg _ _ => ofNibbles 0x6 0x0 0x0 0x3
  | .movBStore _ _ => ofNibbles 0x2 0x0 0x0 0x0
  | .movWStore _ _ => ofNibbles 0x2 0x0 0x0 0x1
  | .movLStore _ _ => ofNibbles 0x2 0x0 0x0 0x2
  | .movBLoad _ _ => ofNibbles 0x6 0x0 0x0 0x0
  | .movWLoad _ _ => ofNibbles 0x6 0x0 0x0 0x1
  | .movLLoad _ _ => ofNibbles 0x6 0x0 0x0 0x2
  | .movBStoreDec _ _ => ofNibbles 0x2 0x0 0x0 0x4
  | .movWStoreDec _ _ => ofNibbles 0x2 0x0 0x0 0x5
  | .movLStoreDec _ _ => ofNibbles 0x2 0x0 0x0 0x6
  | .movBLoadInc _ _ => ofNibbles 0x6 0x0 0x0 0x4
  | .movWLoadInc _ _ => ofNibbles 0x6 0x0 0x0 0x5
  | .movLLoadInc _ _ => ofNibbles 0x6 0x0 0x0 0x6
  | .movBStoreIdx _ _ => ofNibbles 0x0 0x0 0x0 0x4
  | .movWStoreIdx _ _ => ofNibbles 0x0 0x0 0x0 0x5
  | .movLStoreIdx _ _ => ofNibbles 0x0 0x0 0x0 0x6
  | .movBLoadIdx _ _ => ofNibbles 0x0 0x0 0x0 0xC
  | .movWLoadIdx _ _ => ofNibbles 0x0 0x0 0x0 0xD
  | .movLLoadIdx _ _ => ofNibbles 0x0 0x0 0x0 0xE
  | .movImm _ _ => ofNibbles 0xE 0x0 0x0 0x0
  | .movWLoadPc _ _ => ofNibbles 0x9 0x0 0x0 0x0
  | .movLLoadPc _ _ => ofNibbles 0xD 0x0 0x0 0x0
  | .movBLoadGbr _ => ofNibbles 0xC 0x4 0x0 0x0
  | .movWLoadGbr _ => ofNibbles 0xC 0x5 0x0 0x0
  | .movLLoadGbr _ => ofNibbles 0xC 0x6 0x0 0x0
  | .movBStoreGbr _ => ofNibbles 0xC 0x0 0x0 0x0
  | .movWStoreGbr _ => ofNibbles 0xC 0x1 0x0 0x0
  | .movLStoreGbr _ => ofNibbles 0xC 0x2 0x0 0x0
  | .movBStoreDisp _ _ => ofNibbles 0x8 0x0 0x0 0x0
  | .movWStoreDisp _ _ => ofNibbles 0x8 0x1 0x0 0x0
  | .movLStoreDisp _ _ _ => ofNibbles 0x1 0x0 0x0 0x0
  | .movBLoadDisp _ _ => ofNibbles 0x8 0x4 0x0 0x0
  | .movWLoadDisp _ _ => ofNibbles 0x8 0x5 0x0 0x0
  | .movLLoadDisp _ _ _ => ofNibbles 0x5 0x0 0x0 0x0
  | .mova _ => ofNibbles 0xC 0x7 0x0 0x0
  | .movt _ => ofNibbles 0x0 0x0 0x2 0x9
  | .swapB _ _ => ofNibbles 0x6 0x0 0x0 0x8
  | .swapW _ _ => ofNibbles 0x6 0x0 0x0 0x9
  | .xtrct _ _ => ofNibbles 0x2 0x0 0x0 0xD
  | .add _ _ => ofNibbles 0x3 0x0 0x0 0xC
  | .addImm _ _ => ofNibbles 0x7 0x0 0x0 0x0
  | .addc _ _ => ofNibbles 0x3 0x0 0x0 0xE
  | .addv _ _ => ofNibbles 0x3 0x0 0x0 0xF
  | .cmpEqImm _ => ofNibbles 0x8 0x8 0x0 0x0
  | .cmpEq _ _ => ofNibbles 0x3 0x0 0x0 0x0
  | .cmpHs _ _ => ofNibbles 0x3 0x0 0x0 0x2
  | .cmpGe _ _ => ofNibbles 0x3 0x0 0x0 0x3
  | .cmpHi _ _ => ofNibbles 0x3 0x0 0x0 0x6
  | .cmpGt _ _ => ofNibbles 0x3 0x0 0x0 0x7
  | .cmpPl _ => ofNibbles 0x4 0x0 0x1 0x5
  | .cmpPz _ => ofNibbles 0x4 0x0 0x1 0x1
  | .cmpStr _ _ => ofNibbles 0x2 0x0 0x0 0xC
  | .div0s _ _ => ofNibbles 0x2 0x0 0x0 0x7
  | .div0u => ofNibbles 0x0 0x0 0x1 0x9
  | .div1 _ _ => ofNibbles 0x3 0x0 0x0 0x4
  | .dt _ => ofNibbles 0x4 0x0 0x1 0x0
  | .extsB _ _ => ofNibbles 0x6 0x0 0x0 0xE
  | .extsW _ _ => ofNibbles 0x6 0x0 0x0 0xF
  | .extuB _ _ => ofNibbles 0x6 0x0 0x0 0xC
  | .extuW _ _ => ofNibbles 0x6 0x0 0x0 0xD
  | .neg _ _ => ofNibbles 0x6 0x0 0x0 0xB
  | .negc _ _ => ofNibbles 0x6 0x0 0x0 0xA
  | .sub _ _ => ofNibbles 0x3 0x0 0x0 0x8
  | .subc _ _ => ofNibbles 0x3 0x0 0x0 0xA
  | .subv _ _ => ofNibbles 0x3 0x0 0x0 0xB
  | .dmulsL _ _ => ofNibbles 0x3 0x0 0x0 0xD
  | .dmuluL _ _ => ofNibbles 0x3 0x0 0x0 0x5
  | .mulL _ _ => ofNibbles 0x0 0x0 0x0 0x7
  | .mulsW _ _ => ofNibbles 0x2 0x0 0x0 0xF
  | .muluW _ _ => ofNibbles 0x2 0x0 0x0 0xE
  | .macL _ _ => ofNibbles 0x0 0x0 0x0 0xF
  | .macW _ _ => ofNibbles 0x4 0x0 0x0 0xF
  | .andReg _ _ => ofNibbles 0x2 0x0 0x0 0x9
  | .andImm _ => ofNibbles 0xC 0x9 0x0 0x0
  | .andMem _ => ofNibbles 0xC 0xD 0x0 0x0
  | .notReg _ _ => ofNibbles 0x6 0x0 0x0 0x7
  | .tas _ => ofNibbles 0x4 0x0 0x1 0xB
  | .orReg _ _ => ofNibbles 0x2 0x0 0x0 0xB
  | .orImm _ => ofNibbles 0xC 0xB 0x0 0x0
  | .orMem _ => ofNibbles 0xC 0xF 0x0 0x0
  | .tstReg _ _ => ofNibbles 0x2 0x0 0x0 0x8
  | .tstImm _ => ofNibbles 0xC 0x8 0x0 0x0
  | .tstMem _ => ofNibbles 0xC 0xC 0x0 0x0
  | .xorReg _ _ => ofNibbles 0x2 0x0 0x0 0xA
  | .xorImm _ => ofNibbles 0xC 0xA 0x0 0x0
  | .xorMem _ => ofNibbles 0xC 0xE 0x0 0x0
  | .rotl _ => ofNibbles 0x4 0x0 0x0 0x4
  | .rotr _ => ofNibbles 0x4 0x0 0x0 0x5
  | .rotcl _ => ofNibbles 0x4 0x0 0x2 0x4
  | .rotcr _ => ofNibbles 0x4 0x0 0x2 0x5
  | .shal _ => ofNibbles 0x4 0x0 0x2 0x0
  | .shar _ => ofNibbles 0x4 0x0 0x2 0x1
  | .shll _ => ofNibbles 0x4 0x0 0x0 0x0
  | .shlr _ => ofNibbles 0x4 0x0 0x0 0x1
  | .shll2 _ => ofNibbles 0x4 0x0 0x0 0x8
  | .shll8 _ => ofNibbles 0x4 0x0 0x1 0x8
  | .shll16 _ => ofNibbles 0x4 0x0 0x2 0x8
  | .shlr2 _ => ofNibbles 0x4 0x0 0x0 0x9
  | .shlr8 _ => ofNibbles 0x4 0x0 0x1 0x9
  | .shlr16 _ => ofNibbles 0x4 0x0 0x2 0x9
  | .bf _ => ofNibbles 0x8 0xB 0x0 0x0
  | .bfS _ => ofNibbles 0x8 0xF 0x0 0x0
  | .bt _ => ofNibbles 0x8 0x9 0x0 0x0
  | .btS _ => ofNibbles 0x8 0xD 0x0 0x0
  | .bra _ => ofNibbles 0xA 0x0 0x0 0x0
  | .braf _ => ofNibbles 0x0 0x0 0x2 0x3
  | .bsr _ => ofNibbles 0xB 0x0 0x0 0x0
  | .bsrf _ => ofNibbles 0x0 0x0 0x0 0x3
  | .jmp _ => ofNibbles 0x4 0x0 0x2 0xB
  | .jsr _ => ofNibbles 0x4 0x0 0x0 0xB
  | .rts => ofNibbles 0x0 0x0 0x0 0xB
  | .clrt => ofNibbles 0x0 0x0 0x0 0x8
  | .clrmac => ofNibbles 0x0 0x0 0x2 0x8
  | .ldcSr _ => ofNibbles 0x4 0x0 0x0 0xE
  | .ldcLSr _ => ofNibbles 0x4 0x0 0x0 0x7
  | .ldcGbr _ => ofNibbles 0x4 0x0 0x1 0xE
  | .ldcLGbr _ => ofNibbles 0x4 0x0 0x1 0x7
  | .ldcVbr _ => ofNibbles 0x4 0x0 0x2 0xE
  | .ldcLVbr _ => ofNibbles 0x4 0x0 0x2 0x7
  | .ldsMach _ => ofNibbles 0x4 0x0 0x0 0xA
  | .ldsLMach _ => ofNibbles 0x4 0x0 0x0 0x6
  | .ldsMacl _ => ofNibbles 0x4 0x0 0x1 0xA
  | .ldsLMacl _ => ofNibbles 0x4 0x0 0x1 0x6
  | .ldsPr _ => ofNibbles 0x4 0x0 0x2 0xA
  | .ldsLPr _ => ofNibbles 0x4 0x0 0x2 0x6
  | .nop => ofNibbles 0x0 0x0 0x0 0x9
  | .rte => ofNibbles 0x0 0x0 0x2 0xB
  | .sett => ofNibbles 0x0 0x0 0x1 0x8
  | .sleep => ofNibbles 0x0 0x0 0x1 0xB
  | .stcSr _ => ofNibbles 0x0 0x0 0x0 0x2
  | .stcLSr _ => ofNibbles 0x4 0x0 0x0 0x3
  | .stcGbr _ => ofNibbles 0x0 0x0 0x1 0x2
  | .stcLGbr _ => ofNibbles 0x4 0x0 0x1 0x3
  | .stcVbr _ => ofNibbles 0x0 0x0 0x2 0x2
  | .stcLVbr _ => ofNibbles 0x4 0x0 0x2 0x3
  | .stsMach _ => ofNibbles 0x0 0x0 0x0 0xA
  | .stsLMach _ => ofNibbles 0x4 0x0 0x0 0x2
  | .stsMacl _ => ofNibbles 0x0 0x0 0x1 0xA
  | .stsLMacl _ => ofNibbles 0x4 0x0 0x1 0x2
  | .stsPr _ => ofNibbles 0x0 0x0 0x2 0xA
  | .stsLPr _ => ofNibbles 0x4 0x0 0x2 0x2
  | .trapa _ => ofNibbles 0xC 0x3 0x0 0x0

/-- The fixed bits of the code are those of the row. -/
def Encoding.Statement (i : Instr) : Prop := encode i &&& Encoding.rowMask i = Encoding.rowMatch i

/-- The case analysis, once. -/
theorem Encoding.every_code (i : Instr) : Encoding.Statement i := by
  cases i <;> simp [Encoding.Statement, Encoding.rowMask, Encoding.rowMatch, encode, and_ofNibbles]

theorem Encoding.movReg (m : Reg) (n : Reg) : Encoding.Statement (.movReg m n) :=
  Encoding.every_code (.movReg m n)
theorem Encoding.movBStore (m : Reg) (n : Reg) : Encoding.Statement (.movBStore m n) :=
  Encoding.every_code (.movBStore m n)
theorem Encoding.movWStore (m : Reg) (n : Reg) : Encoding.Statement (.movWStore m n) :=
  Encoding.every_code (.movWStore m n)
theorem Encoding.movLStore (m : Reg) (n : Reg) : Encoding.Statement (.movLStore m n) :=
  Encoding.every_code (.movLStore m n)
theorem Encoding.movBLoad (m : Reg) (n : Reg) : Encoding.Statement (.movBLoad m n) :=
  Encoding.every_code (.movBLoad m n)
theorem Encoding.movWLoad (m : Reg) (n : Reg) : Encoding.Statement (.movWLoad m n) :=
  Encoding.every_code (.movWLoad m n)
theorem Encoding.movLLoad (m : Reg) (n : Reg) : Encoding.Statement (.movLLoad m n) :=
  Encoding.every_code (.movLLoad m n)
theorem Encoding.movBStoreDec (m : Reg) (n : Reg) : Encoding.Statement (.movBStoreDec m n) :=
  Encoding.every_code (.movBStoreDec m n)
theorem Encoding.movWStoreDec (m : Reg) (n : Reg) : Encoding.Statement (.movWStoreDec m n) :=
  Encoding.every_code (.movWStoreDec m n)
theorem Encoding.movLStoreDec (m : Reg) (n : Reg) : Encoding.Statement (.movLStoreDec m n) :=
  Encoding.every_code (.movLStoreDec m n)
theorem Encoding.movBLoadInc (m : Reg) (n : Reg) : Encoding.Statement (.movBLoadInc m n) :=
  Encoding.every_code (.movBLoadInc m n)
theorem Encoding.movWLoadInc (m : Reg) (n : Reg) : Encoding.Statement (.movWLoadInc m n) :=
  Encoding.every_code (.movWLoadInc m n)
theorem Encoding.movLLoadInc (m : Reg) (n : Reg) : Encoding.Statement (.movLLoadInc m n) :=
  Encoding.every_code (.movLLoadInc m n)
theorem Encoding.movBStoreIdx (m : Reg) (n : Reg) : Encoding.Statement (.movBStoreIdx m n) :=
  Encoding.every_code (.movBStoreIdx m n)
theorem Encoding.movWStoreIdx (m : Reg) (n : Reg) : Encoding.Statement (.movWStoreIdx m n) :=
  Encoding.every_code (.movWStoreIdx m n)
theorem Encoding.movLStoreIdx (m : Reg) (n : Reg) : Encoding.Statement (.movLStoreIdx m n) :=
  Encoding.every_code (.movLStoreIdx m n)
theorem Encoding.movBLoadIdx (m : Reg) (n : Reg) : Encoding.Statement (.movBLoadIdx m n) :=
  Encoding.every_code (.movBLoadIdx m n)
theorem Encoding.movWLoadIdx (m : Reg) (n : Reg) : Encoding.Statement (.movWLoadIdx m n) :=
  Encoding.every_code (.movWLoadIdx m n)
theorem Encoding.movLLoadIdx (m : Reg) (n : Reg) : Encoding.Statement (.movLLoadIdx m n) :=
  Encoding.every_code (.movLLoadIdx m n)
theorem Encoding.movImm (imm : BitVec 8) (n : Reg) : Encoding.Statement (.movImm imm n) :=
  Encoding.every_code (.movImm imm n)
theorem Encoding.movWLoadPc (disp : BitVec 8) (n : Reg) : Encoding.Statement (.movWLoadPc disp n) :=
  Encoding.every_code (.movWLoadPc disp n)
theorem Encoding.movLLoadPc (disp : BitVec 8) (n : Reg) : Encoding.Statement (.movLLoadPc disp n) :=
  Encoding.every_code (.movLLoadPc disp n)
theorem Encoding.movBLoadGbr (disp : BitVec 8) : Encoding.Statement (.movBLoadGbr disp) :=
  Encoding.every_code (.movBLoadGbr disp)
theorem Encoding.movWLoadGbr (disp : BitVec 8) : Encoding.Statement (.movWLoadGbr disp) :=
  Encoding.every_code (.movWLoadGbr disp)
theorem Encoding.movLLoadGbr (disp : BitVec 8) : Encoding.Statement (.movLLoadGbr disp) :=
  Encoding.every_code (.movLLoadGbr disp)
theorem Encoding.movBStoreGbr (disp : BitVec 8) : Encoding.Statement (.movBStoreGbr disp) :=
  Encoding.every_code (.movBStoreGbr disp)
theorem Encoding.movWStoreGbr (disp : BitVec 8) : Encoding.Statement (.movWStoreGbr disp) :=
  Encoding.every_code (.movWStoreGbr disp)
theorem Encoding.movLStoreGbr (disp : BitVec 8) : Encoding.Statement (.movLStoreGbr disp) :=
  Encoding.every_code (.movLStoreGbr disp)
theorem Encoding.movBStoreDisp (disp : BitVec 4) (n : Reg) : Encoding.Statement (.movBStoreDisp disp n) :=
  Encoding.every_code (.movBStoreDisp disp n)
theorem Encoding.movWStoreDisp (disp : BitVec 4) (n : Reg) : Encoding.Statement (.movWStoreDisp disp n) :=
  Encoding.every_code (.movWStoreDisp disp n)
theorem Encoding.movLStoreDisp (m : Reg) (disp : BitVec 4) (n : Reg) : Encoding.Statement (.movLStoreDisp m disp n) :=
  Encoding.every_code (.movLStoreDisp m disp n)
theorem Encoding.movBLoadDisp (disp : BitVec 4) (m : Reg) : Encoding.Statement (.movBLoadDisp disp m) :=
  Encoding.every_code (.movBLoadDisp disp m)
theorem Encoding.movWLoadDisp (disp : BitVec 4) (m : Reg) : Encoding.Statement (.movWLoadDisp disp m) :=
  Encoding.every_code (.movWLoadDisp disp m)
theorem Encoding.movLLoadDisp (disp : BitVec 4) (m : Reg) (n : Reg) : Encoding.Statement (.movLLoadDisp disp m n) :=
  Encoding.every_code (.movLLoadDisp disp m n)
theorem Encoding.mova (disp : BitVec 8) : Encoding.Statement (.mova disp) :=
  Encoding.every_code (.mova disp)
theorem Encoding.movt (n : Reg) : Encoding.Statement (.movt n) :=
  Encoding.every_code (.movt n)
theorem Encoding.swapB (m : Reg) (n : Reg) : Encoding.Statement (.swapB m n) :=
  Encoding.every_code (.swapB m n)
theorem Encoding.swapW (m : Reg) (n : Reg) : Encoding.Statement (.swapW m n) :=
  Encoding.every_code (.swapW m n)
theorem Encoding.xtrct (m : Reg) (n : Reg) : Encoding.Statement (.xtrct m n) :=
  Encoding.every_code (.xtrct m n)
theorem Encoding.add (m : Reg) (n : Reg) : Encoding.Statement (.add m n) :=
  Encoding.every_code (.add m n)
theorem Encoding.addImm (imm : BitVec 8) (n : Reg) : Encoding.Statement (.addImm imm n) :=
  Encoding.every_code (.addImm imm n)
theorem Encoding.addc (m : Reg) (n : Reg) : Encoding.Statement (.addc m n) :=
  Encoding.every_code (.addc m n)
theorem Encoding.addv (m : Reg) (n : Reg) : Encoding.Statement (.addv m n) :=
  Encoding.every_code (.addv m n)
theorem Encoding.cmpEqImm (imm : BitVec 8) : Encoding.Statement (.cmpEqImm imm) :=
  Encoding.every_code (.cmpEqImm imm)
theorem Encoding.cmpEq (m : Reg) (n : Reg) : Encoding.Statement (.cmpEq m n) :=
  Encoding.every_code (.cmpEq m n)
theorem Encoding.cmpHs (m : Reg) (n : Reg) : Encoding.Statement (.cmpHs m n) :=
  Encoding.every_code (.cmpHs m n)
theorem Encoding.cmpGe (m : Reg) (n : Reg) : Encoding.Statement (.cmpGe m n) :=
  Encoding.every_code (.cmpGe m n)
theorem Encoding.cmpHi (m : Reg) (n : Reg) : Encoding.Statement (.cmpHi m n) :=
  Encoding.every_code (.cmpHi m n)
theorem Encoding.cmpGt (m : Reg) (n : Reg) : Encoding.Statement (.cmpGt m n) :=
  Encoding.every_code (.cmpGt m n)
theorem Encoding.cmpPl (n : Reg) : Encoding.Statement (.cmpPl n) :=
  Encoding.every_code (.cmpPl n)
theorem Encoding.cmpPz (n : Reg) : Encoding.Statement (.cmpPz n) :=
  Encoding.every_code (.cmpPz n)
theorem Encoding.cmpStr (m : Reg) (n : Reg) : Encoding.Statement (.cmpStr m n) :=
  Encoding.every_code (.cmpStr m n)
theorem Encoding.div0s (m : Reg) (n : Reg) : Encoding.Statement (.div0s m n) :=
  Encoding.every_code (.div0s m n)
theorem Encoding.div0u : Encoding.Statement .div0u :=
  Encoding.every_code .div0u
theorem Encoding.div1 (m : Reg) (n : Reg) : Encoding.Statement (.div1 m n) :=
  Encoding.every_code (.div1 m n)
theorem Encoding.dt (n : Reg) : Encoding.Statement (.dt n) :=
  Encoding.every_code (.dt n)
theorem Encoding.extsB (m : Reg) (n : Reg) : Encoding.Statement (.extsB m n) :=
  Encoding.every_code (.extsB m n)
theorem Encoding.extsW (m : Reg) (n : Reg) : Encoding.Statement (.extsW m n) :=
  Encoding.every_code (.extsW m n)
theorem Encoding.extuB (m : Reg) (n : Reg) : Encoding.Statement (.extuB m n) :=
  Encoding.every_code (.extuB m n)
theorem Encoding.extuW (m : Reg) (n : Reg) : Encoding.Statement (.extuW m n) :=
  Encoding.every_code (.extuW m n)
theorem Encoding.neg (m : Reg) (n : Reg) : Encoding.Statement (.neg m n) :=
  Encoding.every_code (.neg m n)
theorem Encoding.negc (m : Reg) (n : Reg) : Encoding.Statement (.negc m n) :=
  Encoding.every_code (.negc m n)
theorem Encoding.sub (m : Reg) (n : Reg) : Encoding.Statement (.sub m n) :=
  Encoding.every_code (.sub m n)
theorem Encoding.subc (m : Reg) (n : Reg) : Encoding.Statement (.subc m n) :=
  Encoding.every_code (.subc m n)
theorem Encoding.subv (m : Reg) (n : Reg) : Encoding.Statement (.subv m n) :=
  Encoding.every_code (.subv m n)
theorem Encoding.dmulsL (m : Reg) (n : Reg) : Encoding.Statement (.dmulsL m n) :=
  Encoding.every_code (.dmulsL m n)
theorem Encoding.dmuluL (m : Reg) (n : Reg) : Encoding.Statement (.dmuluL m n) :=
  Encoding.every_code (.dmuluL m n)
theorem Encoding.mulL (m : Reg) (n : Reg) : Encoding.Statement (.mulL m n) :=
  Encoding.every_code (.mulL m n)
theorem Encoding.mulsW (m : Reg) (n : Reg) : Encoding.Statement (.mulsW m n) :=
  Encoding.every_code (.mulsW m n)
theorem Encoding.muluW (m : Reg) (n : Reg) : Encoding.Statement (.muluW m n) :=
  Encoding.every_code (.muluW m n)
theorem Encoding.macL (m : Reg) (n : Reg) : Encoding.Statement (.macL m n) :=
  Encoding.every_code (.macL m n)
theorem Encoding.macW (m : Reg) (n : Reg) : Encoding.Statement (.macW m n) :=
  Encoding.every_code (.macW m n)
theorem Encoding.andReg (m : Reg) (n : Reg) : Encoding.Statement (.andReg m n) :=
  Encoding.every_code (.andReg m n)
theorem Encoding.andImm (imm : BitVec 8) : Encoding.Statement (.andImm imm) :=
  Encoding.every_code (.andImm imm)
theorem Encoding.andMem (imm : BitVec 8) : Encoding.Statement (.andMem imm) :=
  Encoding.every_code (.andMem imm)
theorem Encoding.notReg (m : Reg) (n : Reg) : Encoding.Statement (.notReg m n) :=
  Encoding.every_code (.notReg m n)
theorem Encoding.tas (n : Reg) : Encoding.Statement (.tas n) :=
  Encoding.every_code (.tas n)
theorem Encoding.orReg (m : Reg) (n : Reg) : Encoding.Statement (.orReg m n) :=
  Encoding.every_code (.orReg m n)
theorem Encoding.orImm (imm : BitVec 8) : Encoding.Statement (.orImm imm) :=
  Encoding.every_code (.orImm imm)
theorem Encoding.orMem (imm : BitVec 8) : Encoding.Statement (.orMem imm) :=
  Encoding.every_code (.orMem imm)
theorem Encoding.tstReg (m : Reg) (n : Reg) : Encoding.Statement (.tstReg m n) :=
  Encoding.every_code (.tstReg m n)
theorem Encoding.tstImm (imm : BitVec 8) : Encoding.Statement (.tstImm imm) :=
  Encoding.every_code (.tstImm imm)
theorem Encoding.tstMem (imm : BitVec 8) : Encoding.Statement (.tstMem imm) :=
  Encoding.every_code (.tstMem imm)
theorem Encoding.xorReg (m : Reg) (n : Reg) : Encoding.Statement (.xorReg m n) :=
  Encoding.every_code (.xorReg m n)
theorem Encoding.xorImm (imm : BitVec 8) : Encoding.Statement (.xorImm imm) :=
  Encoding.every_code (.xorImm imm)
theorem Encoding.xorMem (imm : BitVec 8) : Encoding.Statement (.xorMem imm) :=
  Encoding.every_code (.xorMem imm)
theorem Encoding.rotl (n : Reg) : Encoding.Statement (.rotl n) :=
  Encoding.every_code (.rotl n)
theorem Encoding.rotr (n : Reg) : Encoding.Statement (.rotr n) :=
  Encoding.every_code (.rotr n)
theorem Encoding.rotcl (n : Reg) : Encoding.Statement (.rotcl n) :=
  Encoding.every_code (.rotcl n)
theorem Encoding.rotcr (n : Reg) : Encoding.Statement (.rotcr n) :=
  Encoding.every_code (.rotcr n)
theorem Encoding.shal (n : Reg) : Encoding.Statement (.shal n) :=
  Encoding.every_code (.shal n)
theorem Encoding.shar (n : Reg) : Encoding.Statement (.shar n) :=
  Encoding.every_code (.shar n)
theorem Encoding.shll (n : Reg) : Encoding.Statement (.shll n) :=
  Encoding.every_code (.shll n)
theorem Encoding.shlr (n : Reg) : Encoding.Statement (.shlr n) :=
  Encoding.every_code (.shlr n)
theorem Encoding.shll2 (n : Reg) : Encoding.Statement (.shll2 n) :=
  Encoding.every_code (.shll2 n)
theorem Encoding.shll8 (n : Reg) : Encoding.Statement (.shll8 n) :=
  Encoding.every_code (.shll8 n)
theorem Encoding.shll16 (n : Reg) : Encoding.Statement (.shll16 n) :=
  Encoding.every_code (.shll16 n)
theorem Encoding.shlr2 (n : Reg) : Encoding.Statement (.shlr2 n) :=
  Encoding.every_code (.shlr2 n)
theorem Encoding.shlr8 (n : Reg) : Encoding.Statement (.shlr8 n) :=
  Encoding.every_code (.shlr8 n)
theorem Encoding.shlr16 (n : Reg) : Encoding.Statement (.shlr16 n) :=
  Encoding.every_code (.shlr16 n)
theorem Encoding.bf (disp : BitVec 8) : Encoding.Statement (.bf disp) :=
  Encoding.every_code (.bf disp)
theorem Encoding.bfS (disp : BitVec 8) : Encoding.Statement (.bfS disp) :=
  Encoding.every_code (.bfS disp)
theorem Encoding.bt (disp : BitVec 8) : Encoding.Statement (.bt disp) :=
  Encoding.every_code (.bt disp)
theorem Encoding.btS (disp : BitVec 8) : Encoding.Statement (.btS disp) :=
  Encoding.every_code (.btS disp)
theorem Encoding.bra (disp : BitVec 12) : Encoding.Statement (.bra disp) :=
  Encoding.every_code (.bra disp)
theorem Encoding.braf (n : Reg) : Encoding.Statement (.braf n) :=
  Encoding.every_code (.braf n)
theorem Encoding.bsr (disp : BitVec 12) : Encoding.Statement (.bsr disp) :=
  Encoding.every_code (.bsr disp)
theorem Encoding.bsrf (n : Reg) : Encoding.Statement (.bsrf n) :=
  Encoding.every_code (.bsrf n)
theorem Encoding.jmp (n : Reg) : Encoding.Statement (.jmp n) :=
  Encoding.every_code (.jmp n)
theorem Encoding.jsr (n : Reg) : Encoding.Statement (.jsr n) :=
  Encoding.every_code (.jsr n)
theorem Encoding.rts : Encoding.Statement .rts :=
  Encoding.every_code .rts
theorem Encoding.clrt : Encoding.Statement .clrt :=
  Encoding.every_code .clrt
theorem Encoding.clrmac : Encoding.Statement .clrmac :=
  Encoding.every_code .clrmac
theorem Encoding.ldcSr (m : Reg) : Encoding.Statement (.ldcSr m) :=
  Encoding.every_code (.ldcSr m)
theorem Encoding.ldcLSr (m : Reg) : Encoding.Statement (.ldcLSr m) :=
  Encoding.every_code (.ldcLSr m)
theorem Encoding.ldcGbr (m : Reg) : Encoding.Statement (.ldcGbr m) :=
  Encoding.every_code (.ldcGbr m)
theorem Encoding.ldcLGbr (m : Reg) : Encoding.Statement (.ldcLGbr m) :=
  Encoding.every_code (.ldcLGbr m)
theorem Encoding.ldcVbr (m : Reg) : Encoding.Statement (.ldcVbr m) :=
  Encoding.every_code (.ldcVbr m)
theorem Encoding.ldcLVbr (m : Reg) : Encoding.Statement (.ldcLVbr m) :=
  Encoding.every_code (.ldcLVbr m)
theorem Encoding.ldsMach (m : Reg) : Encoding.Statement (.ldsMach m) :=
  Encoding.every_code (.ldsMach m)
theorem Encoding.ldsLMach (m : Reg) : Encoding.Statement (.ldsLMach m) :=
  Encoding.every_code (.ldsLMach m)
theorem Encoding.ldsMacl (m : Reg) : Encoding.Statement (.ldsMacl m) :=
  Encoding.every_code (.ldsMacl m)
theorem Encoding.ldsLMacl (m : Reg) : Encoding.Statement (.ldsLMacl m) :=
  Encoding.every_code (.ldsLMacl m)
theorem Encoding.ldsPr (m : Reg) : Encoding.Statement (.ldsPr m) :=
  Encoding.every_code (.ldsPr m)
theorem Encoding.ldsLPr (m : Reg) : Encoding.Statement (.ldsLPr m) :=
  Encoding.every_code (.ldsLPr m)
theorem Encoding.nop : Encoding.Statement .nop :=
  Encoding.every_code .nop
theorem Encoding.rte : Encoding.Statement .rte :=
  Encoding.every_code .rte
theorem Encoding.sett : Encoding.Statement .sett :=
  Encoding.every_code .sett
theorem Encoding.sleep : Encoding.Statement .sleep :=
  Encoding.every_code .sleep
theorem Encoding.stcSr (n : Reg) : Encoding.Statement (.stcSr n) :=
  Encoding.every_code (.stcSr n)
theorem Encoding.stcLSr (n : Reg) : Encoding.Statement (.stcLSr n) :=
  Encoding.every_code (.stcLSr n)
theorem Encoding.stcGbr (n : Reg) : Encoding.Statement (.stcGbr n) :=
  Encoding.every_code (.stcGbr n)
theorem Encoding.stcLGbr (n : Reg) : Encoding.Statement (.stcLGbr n) :=
  Encoding.every_code (.stcLGbr n)
theorem Encoding.stcVbr (n : Reg) : Encoding.Statement (.stcVbr n) :=
  Encoding.every_code (.stcVbr n)
theorem Encoding.stcLVbr (n : Reg) : Encoding.Statement (.stcLVbr n) :=
  Encoding.every_code (.stcLVbr n)
theorem Encoding.stsMach (n : Reg) : Encoding.Statement (.stsMach n) :=
  Encoding.every_code (.stsMach n)
theorem Encoding.stsLMach (n : Reg) : Encoding.Statement (.stsLMach n) :=
  Encoding.every_code (.stsLMach n)
theorem Encoding.stsMacl (n : Reg) : Encoding.Statement (.stsMacl n) :=
  Encoding.every_code (.stsMacl n)
theorem Encoding.stsLMacl (n : Reg) : Encoding.Statement (.stsLMacl n) :=
  Encoding.every_code (.stsLMacl n)
theorem Encoding.stsPr (n : Reg) : Encoding.Statement (.stsPr n) :=
  Encoding.every_code (.stsPr n)
theorem Encoding.stsLPr (n : Reg) : Encoding.Statement (.stsLPr n) :=
  Encoding.every_code (.stsLPr n)
theorem Encoding.trapa (imm : BitVec 8) : Encoding.Statement (.trapa imm) :=
  Encoding.every_code (.trapa imm)

end Sys2Proof.Laws
end

