-- ==== Sys2Proof/Tests/Slice0.lean ====
section
/-! SUPPORT. Tests: what `WellFormed` refuses; for every instruction a code written out bit by bit from its encoding; the
manual's own worked examples (95_test_vectors.md, the rows M1-M79 and, for an instruction without one, a derived row),
each one step of the machine; and for every statement with hypotheses a state and operands that meet them. -/

set_option Elab.async false

namespace Sys2Proof.Tests

open Sys2Proof.Machine

/-! ### Well-formedness -/

/-- The nine instructions of 00_scope.md R2 (a) are ill-formed on the SH7000. -/
theorem test_wellFormed_refuses :
    (Instr.dt 1).wellFormed .sh7000 = false ∧ (Instr.dmulsL 1 2).wellFormed .sh7000 = false ∧
    (Instr.dmuluL 1 2).wellFormed .sh7000 = false ∧ (Instr.mulL 1 2).wellFormed .sh7000 = false ∧
    (Instr.macL 1 2).wellFormed .sh7000 = false ∧ (Instr.bfS 1).wellFormed .sh7000 = false ∧
    (Instr.btS 1).wellFormed .sh7000 = false ∧ (Instr.braf 1).wellFormed .sh7000 = false ∧
    (Instr.bsrf 1).wellFormed .sh7000 = false := by decide

theorem test_wellFormed_accepts :
    (Instr.dt 1).wellFormed .sh7600 = true ∧ (Instr.macL 1 2).wellFormed .sh7600 = true ∧
    (Instr.macW 1 2).wellFormed .sh7000 = true ∧ (Instr.bf 1).wellFormed .sh7000 = true := by decide

/-! ### Decoding: one code for every instruction, bit by bit from its encoding in 30_encoding.md -/

/-- 40_data_transfer.md. -/
theorem test_decode_data1 :
    decodeTableWord 16 0b0110010110010011 = some (.movReg 0x9 0x5) ∧
    decodeTableWord 16 0b0010010110010000 = some (.movBStore 0x9 0x5) ∧
    decodeTableWord 16 0b0010010110010001 = some (.movWStore 0x9 0x5) ∧
    decodeTableWord 16 0b0010010110010010 = some (.movLStore 0x9 0x5) ∧
    decodeTableWord 16 0b0110010110010000 = some (.movBLoad 0x9 0x5) ∧
    decodeTableWord 16 0b0110010110010001 = some (.movWLoad 0x9 0x5) ∧
    decodeTableWord 16 0b0110010110010010 = some (.movLLoad 0x9 0x5) ∧
    decodeTableWord 16 0b0010010110010100 = some (.movBStoreDec 0x9 0x5) ∧
    decodeTableWord 16 0b0010010110010101 = some (.movWStoreDec 0x9 0x5) ∧
    decodeTableWord 16 0b0010010110010110 = some (.movLStoreDec 0x9 0x5) ∧
    decodeTableWord 16 0b0110010110010100 = some (.movBLoadInc 0x9 0x5) ∧
    decodeTableWord 16 0b0110010110010101 = some (.movWLoadInc 0x9 0x5) ∧
    decodeTableWord 16 0b0110010110010110 = some (.movLLoadInc 0x9 0x5) ∧
    decodeTableWord 16 0b0000010110010100 = some (.movBStoreIdx 0x9 0x5) ∧
    decodeTableWord 16 0b0000010110010101 = some (.movWStoreIdx 0x9 0x5) ∧
    decodeTableWord 16 0b0000010110010110 = some (.movLStoreIdx 0x9 0x5) ∧
    decodeTableWord 16 0b0000010110011100 = some (.movBLoadIdx 0x9 0x5) ∧
    decodeTableWord 16 0b0000010110011101 = some (.movWLoadIdx 0x9 0x5) ∧
    decodeTableWord 16 0b0000010110011110 = some (.movLLoadIdx 0x9 0x5) ∧
    decodeTableWord 16 0b1110010110110011 = some (.movImm 0xB3 0x5) := by decide

/-- 40_data_transfer.md. -/
theorem test_decode_data2 :
    decodeTableWord 16 0b1001010110110011 = some (.movWLoadPc 0xB3 0x5) ∧
    decodeTableWord 16 0b1101010110110011 = some (.movLLoadPc 0xB3 0x5) ∧
    decodeTableWord 16 0b1100010010110011 = some (.movBLoadGbr 0xB3) ∧
    decodeTableWord 16 0b1100010110110011 = some (.movWLoadGbr 0xB3) ∧
    decodeTableWord 16 0b1100011010110011 = some (.movLLoadGbr 0xB3) ∧
    decodeTableWord 16 0b1100000010110011 = some (.movBStoreGbr 0xB3) ∧
    decodeTableWord 16 0b1100000110110011 = some (.movWStoreGbr 0xB3) ∧
    decodeTableWord 16 0b1100001010110011 = some (.movLStoreGbr 0xB3) ∧
    decodeTableWord 16 0b1000000001011101 = some (.movBStoreDisp 0xD 0x5) ∧
    decodeTableWord 16 0b1000000101011101 = some (.movWStoreDisp 0xD 0x5) ∧
    decodeTableWord 16 0b0001010110011101 = some (.movLStoreDisp 0x9 0xD 0x5) ∧
    decodeTableWord 16 0b1000010010011101 = some (.movBLoadDisp 0xD 0x9) ∧
    decodeTableWord 16 0b1000010110011101 = some (.movWLoadDisp 0xD 0x9) ∧
    decodeTableWord 16 0b0101010110011101 = some (.movLLoadDisp 0xD 0x9 0x5) ∧
    decodeTableWord 16 0b1100011110110011 = some (.mova 0xB3) ∧
    decodeTableWord 16 0b0000010100101001 = some (.movt 0x5) ∧
    decodeTableWord 16 0b0110010110011000 = some (.swapB 0x9 0x5) ∧
    decodeTableWord 16 0b0110010110011001 = some (.swapW 0x9 0x5) ∧
    decodeTableWord 16 0b0010010110011101 = some (.xtrct 0x9 0x5) := by decide

/-- 41_arithmetic.md. -/
theorem test_decode_arithmetic1 :
    decodeTableWord 16 0b0011010110011100 = some (.add 0x9 0x5) ∧
    decodeTableWord 16 0b0111010110110011 = some (.addImm 0xB3 0x5) ∧
    decodeTableWord 16 0b0011010110011110 = some (.addc 0x9 0x5) ∧
    decodeTableWord 16 0b0011010110011111 = some (.addv 0x9 0x5) ∧
    decodeTableWord 16 0b1000100010110011 = some (.cmpEqImm 0xB3) ∧
    decodeTableWord 16 0b0011010110010000 = some (.cmpEq 0x9 0x5) ∧
    decodeTableWord 16 0b0011010110010010 = some (.cmpHs 0x9 0x5) ∧
    decodeTableWord 16 0b0011010110010011 = some (.cmpGe 0x9 0x5) ∧
    decodeTableWord 16 0b0011010110010110 = some (.cmpHi 0x9 0x5) ∧
    decodeTableWord 16 0b0011010110010111 = some (.cmpGt 0x9 0x5) ∧
    decodeTableWord 16 0b0100010100010101 = some (.cmpPl 0x5) ∧
    decodeTableWord 16 0b0100010100010001 = some (.cmpPz 0x5) ∧
    decodeTableWord 16 0b0010010110011100 = some (.cmpStr 0x9 0x5) ∧
    decodeTableWord 16 0b0010010110010111 = some (.div0s 0x9 0x5) ∧
    decodeTableWord 16 0b0000000000011001 = some .div0u ∧
    decodeTableWord 16 0b0011010110010100 = some (.div1 0x9 0x5) ∧
    decodeTableWord 16 0b0100010100010000 = some (.dt 0x5) ∧
    decodeTableWord 16 0b0110010110011110 = some (.extsB 0x9 0x5) ∧
    decodeTableWord 16 0b0110010110011111 = some (.extsW 0x9 0x5) ∧
    decodeTableWord 16 0b0110010110011100 = some (.extuB 0x9 0x5) := by decide

/-- 41_arithmetic.md. -/
theorem test_decode_arithmetic2 :
    decodeTableWord 16 0b0110010110011101 = some (.extuW 0x9 0x5) ∧
    decodeTableWord 16 0b0110010110011011 = some (.neg 0x9 0x5) ∧
    decodeTableWord 16 0b0110010110011010 = some (.negc 0x9 0x5) ∧
    decodeTableWord 16 0b0011010110011000 = some (.sub 0x9 0x5) ∧
    decodeTableWord 16 0b0011010110011010 = some (.subc 0x9 0x5) ∧
    decodeTableWord 16 0b0011010110011011 = some (.subv 0x9 0x5) := by decide

/-- 42_multiply_mac.md. -/
theorem test_decode_multiply :
    decodeTableWord 16 0b0011010110011101 = some (.dmulsL 0x9 0x5) ∧
    decodeTableWord 16 0b0011010110010101 = some (.dmuluL 0x9 0x5) ∧
    decodeTableWord 16 0b0000010110010111 = some (.mulL 0x9 0x5) ∧
    decodeTableWord 16 0b0010010110011111 = some (.mulsW 0x9 0x5) ∧
    decodeTableWord 16 0b0010010110011110 = some (.muluW 0x9 0x5) ∧
    decodeTableWord 16 0b0000010110011111 = some (.macL 0x9 0x5) ∧
    decodeTableWord 16 0b0100010110011111 = some (.macW 0x9 0x5) := by decide

/-- 43_logic.md. -/
theorem test_decode_logic :
    decodeTableWord 16 0b0010010110011001 = some (.andReg 0x9 0x5) ∧
    decodeTableWord 16 0b1100100110110011 = some (.andImm 0xB3) ∧
    decodeTableWord 16 0b1100110110110011 = some (.andMem 0xB3) ∧
    decodeTableWord 16 0b0110010110010111 = some (.notReg 0x9 0x5) ∧
    decodeTableWord 16 0b0100010100011011 = some (.tas 0x5) ∧
    decodeTableWord 16 0b0010010110011011 = some (.orReg 0x9 0x5) ∧
    decodeTableWord 16 0b1100101110110011 = some (.orImm 0xB3) ∧
    decodeTableWord 16 0b1100111110110011 = some (.orMem 0xB3) ∧
    decodeTableWord 16 0b0010010110011000 = some (.tstReg 0x9 0x5) ∧
    decodeTableWord 16 0b1100100010110011 = some (.tstImm 0xB3) ∧
    decodeTableWord 16 0b1100110010110011 = some (.tstMem 0xB3) ∧
    decodeTableWord 16 0b0010010110011010 = some (.xorReg 0x9 0x5) ∧
    decodeTableWord 16 0b1100101010110011 = some (.xorImm 0xB3) ∧
    decodeTableWord 16 0b1100111010110011 = some (.xorMem 0xB3) := by decide

/-- 44_shift.md. -/
theorem test_decode_shift :
    decodeTableWord 16 0b0100010100000100 = some (.rotl 0x5) ∧
    decodeTableWord 16 0b0100010100000101 = some (.rotr 0x5) ∧
    decodeTableWord 16 0b0100010100100100 = some (.rotcl 0x5) ∧
    decodeTableWord 16 0b0100010100100101 = some (.rotcr 0x5) ∧
    decodeTableWord 16 0b0100010100100000 = some (.shal 0x5) ∧
    decodeTableWord 16 0b0100010100100001 = some (.shar 0x5) ∧
    decodeTableWord 16 0b0100010100000000 = some (.shll 0x5) ∧
    decodeTableWord 16 0b0100010100000001 = some (.shlr 0x5) ∧
    decodeTableWord 16 0b0100010100001000 = some (.shll2 0x5) ∧
    decodeTableWord 16 0b0100010100011000 = some (.shll8 0x5) ∧
    decodeTableWord 16 0b0100010100101000 = some (.shll16 0x5) ∧
    decodeTableWord 16 0b0100010100001001 = some (.shlr2 0x5) ∧
    decodeTableWord 16 0b0100010100011001 = some (.shlr8 0x5) ∧
    decodeTableWord 16 0b0100010100101001 = some (.shlr16 0x5) := by decide

/-- 45_branch.md. -/
theorem test_decode_branch :
    decodeTableWord 16 0b1000101110110011 = some (.bf 0xB3) ∧
    decodeTableWord 16 0b1000111110110011 = some (.bfS 0xB3) ∧
    decodeTableWord 16 0b1000100110110011 = some (.bt 0xB3) ∧
    decodeTableWord 16 0b1000110110110011 = some (.btS 0xB3) ∧
    decodeTableWord 16 0b1010101100111001 = some (.bra 0xB39) ∧
    decodeTableWord 16 0b0000010100100011 = some (.braf 0x5) ∧
    decodeTableWord 16 0b1011101100111001 = some (.bsr 0xB39) ∧
    decodeTableWord 16 0b0000010100000011 = some (.bsrf 0x5) ∧
    decodeTableWord 16 0b0100010100101011 = some (.jmp 0x5) ∧
    decodeTableWord 16 0b0100010100001011 = some (.jsr 0x5) ∧
    decodeTableWord 16 0b0000000000001011 = some .rts := by decide

/-- 46_system_control.md. -/
theorem test_decode_system1 :
    decodeTableWord 16 0b0000000000001000 = some .clrt ∧
    decodeTableWord 16 0b0000000000101000 = some .clrmac ∧
    decodeTableWord 16 0b0100100100001110 = some (.ldcSr 0x9) ∧
    decodeTableWord 16 0b0100100100000111 = some (.ldcLSr 0x9) ∧
    decodeTableWord 16 0b0100100100011110 = some (.ldcGbr 0x9) ∧
    decodeTableWord 16 0b0100100100010111 = some (.ldcLGbr 0x9) ∧
    decodeTableWord 16 0b0100100100101110 = some (.ldcVbr 0x9) ∧
    decodeTableWord 16 0b0100100100100111 = some (.ldcLVbr 0x9) ∧
    decodeTableWord 16 0b0100100100001010 = some (.ldsMach 0x9) ∧
    decodeTableWord 16 0b0100100100000110 = some (.ldsLMach 0x9) ∧
    decodeTableWord 16 0b0100100100011010 = some (.ldsMacl 0x9) ∧
    decodeTableWord 16 0b0100100100010110 = some (.ldsLMacl 0x9) ∧
    decodeTableWord 16 0b0100100100101010 = some (.ldsPr 0x9) ∧
    decodeTableWord 16 0b0100100100100110 = some (.ldsLPr 0x9) ∧
    decodeTableWord 16 0b0000000000001001 = some .nop ∧
    decodeTableWord 16 0b0000000000101011 = some .rte ∧
    decodeTableWord 16 0b0000000000011000 = some .sett ∧
    decodeTableWord 16 0b0000000000011011 = some .sleep ∧
    decodeTableWord 16 0b0000010100000010 = some (.stcSr 0x5) ∧
    decodeTableWord 16 0b0100010100000011 = some (.stcLSr 0x5) := by decide

/-- 46_system_control.md. -/
theorem test_decode_system2 :
    decodeTableWord 16 0b0000010100010010 = some (.stcGbr 0x5) ∧
    decodeTableWord 16 0b0100010100010011 = some (.stcLGbr 0x5) ∧
    decodeTableWord 16 0b0000010100100010 = some (.stcVbr 0x5) ∧
    decodeTableWord 16 0b0100010100100011 = some (.stcLVbr 0x5) ∧
    decodeTableWord 16 0b0000010100001010 = some (.stsMach 0x5) ∧
    decodeTableWord 16 0b0100010100000010 = some (.stsLMach 0x5) ∧
    decodeTableWord 16 0b0000010100011010 = some (.stsMacl 0x5) ∧
    decodeTableWord 16 0b0100010100010010 = some (.stsLMacl 0x5) ∧
    decodeTableWord 16 0b0000010100101010 = some (.stsPr 0x5) ∧
    decodeTableWord 16 0b0100010100100010 = some (.stsLPr 0x5) ∧
    decodeTableWord 16 0b1100001110110011 = some (.trapa 0xB3) := by decide

/-- Codes assigned to no instruction (30_encoding.md R121). -/
theorem test_decode_refuses :
    decode [0xFF, 0xFF] = .error (.unassigned 0xFFFF) ∧ decode [0x00, 0x00] = .error (.unassigned 0x0000) ∧
    decode [0x41, 0x0C] = .error (.unassigned 0x410C) ∧ decode [0x01, 0x09] = .error (.unassigned 0x0109) ∧
    decode [0x61] = .error .truncated := by decide

/-! ### Worked examples: one step each -/

/-- A program about to run the instruction with this code at H'1000, SR and every register 0. -/
def at1000 (code : Nat) : State :=
  { State.reset with pc := 0x1000, sr := StatusReg.ofWord 0 }.withFetchWord 16 code

/-- The same on the SH7000. -/
def at1000sh7000 (code : Nat) : State :=
  { at1000 code with params := { Params.default with series := .sh7000 } }

/-- The T bit set. -/
def withT (s : State) : State := s.setT true

/-- What a step gives, seen through `f`. -/
def stepped {α : Type} (s : State) (f : State → α) : Option α :=
  match step s with
  | .next t => some (f t)
  | .fault _ => none
  | .refused _ => none

/-- 95_test_vectors.md M24, M25, M26, M27, M28, M29, M30, M31, M32, M33. -/
theorem test_data1 :
    stepped (((at1000 0x6103).setReg 0 0xFFFFFFFF).setReg 1 0x0) (fun t => t.reg 1) = some 0xFFFFFFFF ∧
    stepped (((at1000 0x2101).setReg 0 0xFFFF7F80).setReg 1 0x2000) (fun t => t.valueAt 0x2000 .word) = some 0x7F80 ∧
    stepped ((((at1000 0x6100).setReg 0 0x2000).putValue 0x2000 0x80 .byte).setReg 1 0x0) (fun t => t.reg 1) = some
      0xFFFFFF80 ∧
    stepped (((at1000 0x2105).setReg 0 0xAAAAAAAA).setReg 1 0xFFFF7F80) (fun t => (t.reg 1, t.valueAt 0xFFFF7F7E
      .word)) = some (0xFFFF7F7E, 0xAAAA) ∧
    stepped (((at1000 0x6106).setReg 0 0x12345670).putValue 0x12345670 0xCAFEF00D .long) (fun t => (t.reg 0, t.reg
      1)) = some (0x12345674, 0xCAFEF00D) ∧
    stepped ((((at1000 0x0214).setReg 2 0x4).setReg 0 0x10000000).setReg 1 0x5A) (fun t => t.valueAt 0x10000004
      .byte) = some 0x5A ∧
    stepped ((((at1000 0x012D).setReg 2 0x4).setReg 0 0x10000000).putValue 0x10000004 0x8001 .word) (fun t => t.reg
      1) = some 0xFFFF8001 ∧
    stepped ((at1000 0xE180).setReg 1 0x0) (fun t => t.reg 1) = some 0xFFFFFF80 ∧
    stepped (((at1000 0xC602).setGbr 0x2000).putValue 0x2008 0x12345670 .long) (fun t => t.reg 0) = some 0x12345670 ∧
    stepped (((at1000 0xC001).setGbr 0x2000).setReg 0 0xFFFF7F80) (fun t => t.valueAt 0x2001 .byte) = some 0x80 := by
  decide +kernel

/-- 95_test_vectors.md M34, M35, M70, M71, M78, DT4, DT6, DT8, DT9, DT10. -/
theorem test_data2 :
    stepped (((at1000 0x5102).setReg 0 0x2000).putValue 0x2008 0x12345670 .long) (fun t => t.reg 1) = some
      0x12345670 ∧
    stepped (((at1000 0x110F).setReg 0 0xFFFF7F80).setReg 1 0x2000) (fun t => t.valueAt 0x203C .long) = some
      0xFFFF7F80 ∧
    stepped ((at1000 0x6108).setReg 0 0x12345678) (fun t => t.reg 1) = some 0x12347856 ∧
    stepped ((at1000 0x6109).setReg 0 0x12345678) (fun t => t.reg 1) = some 0x56781234 ∧
    stepped (((at1000 0x210D).setReg 0 0x1234567).setReg 1 0x89ABCDEF) (fun t => t.reg 1) = some 0x456789AB ∧
    stepped ((((at1000 0x2100).setReg 0 0xFFFF7F80).setReg 1 0x2001).putValue 0x2000 0x11223344 .long) (fun t =>
      t.valueAt 0x2000 .long) = some 0x11803344 ∧
    stepped (((at1000 0x2102).setReg 0 0x1234ABCD).setReg 1 0x2000) (fun t => (t.valueAt 0x2000 .byte, t.valueAt
      0x2001 .byte, t.valueAt 0x2002 .byte, t.valueAt 0x2003 .byte)) = some (0x12, 0x34, 0xAB, 0xCD) ∧
    stepped (((at1000 0x6101).setReg 0 0x2002).putValue 0x2000 0x11229ABC .long) (fun t => t.reg 1) = some
      0xFFFF9ABC ∧
    stepped (((at1000 0x6112).setReg 1 0x2000).putValue 0x2000 0xDEADBEEF .long) (fun t => t.reg 1) = some
      0xDEADBEEF ∧
    stepped ((at1000 0x2114).setReg 1 0x2001) (fun t => (t.reg 1, t.valueAt 0x2000 .byte)) = some (0x2000, 0x1) := by
  decide +kernel

/-- 95_test_vectors.md DT11, DT14, DT15, DT19, DT20, DT22, DT23, DT26, DT27, DT28. -/
theorem test_data3 :
    stepped ((at1000 0x2FF6).setReg 15 0x2000) (fun t => (t.reg 15, t.valueAt 0x1FFC .long)) = some (0x1FFC, 0x2000) ∧
    stepped (((at1000 0x6104).setReg 0 0x2000).putValue 0x2000 0xFE .byte) (fun t => (t.reg 0, t.reg 1)) = some
      (0x2001, 0xFFFFFFFE) ∧
    stepped (((at1000 0x6105).setReg 0 0x2000).putValue 0x2000 0x7FFF .word) (fun t => (t.reg 0, t.reg 1)) = some
      (0x2002, 0x7FFF) ∧
    stepped (((at1000 0x8013).setReg 0 0xAB).setReg 1 0x2000) (fun t => t.valueAt 0x2003 .byte) = some 0xAB ∧
    stepped (((at1000 0x8113).setReg 0 0xABCD).setReg 1 0x2000) (fun t => t.valueAt 0x2006 .word) = some 0xABCD ∧
    stepped (((at1000 0x841F).setReg 1 0x2000).putValue 0x200F 0x80 .byte) (fun t => t.reg 0) = some 0xFFFFFF80 ∧
    stepped (((at1000 0x851F).setReg 1 0x2000).putValue 0x201E 0x8000 .word) (fun t => t.reg 0) = some 0xFFFF8000 ∧
    stepped ((((at1000 0x0215).setReg 0 0xFFFFFFFC).setReg 2 0x2008).setReg 1 0xBEEF) (fun t => t.valueAt 0x2004
      .word) = some 0xBEEF ∧
    stepped ((((at1000 0x012E).setReg 0 0x8).setReg 2 0x2000).putValue 0x2008 0x80000001 .long) (fun t => t.reg 1)
      = some 0x80000001 ∧
    stepped (((at1000 0x000C).setReg 0 0x1000).putValue 0x2000 0xFF .byte) (fun t => t.reg 0) = some 0xFFFFFFFF := by
  decide +kernel

/-- 95_test_vectors.md DT30, DT31, DT32, DT33, DT34, DP1, DP3, DP7. -/
theorem test_data4 :
    stepped (((at1000 0xC1FF).setReg 0 0x1234).setGbr 0x2000) (fun t => t.valueAt 0x21FE .word) = some 0x1234 ∧
    stepped (((at1000 0xC2FF).setReg 0 0x1234).setGbr 0x2000) (fun t => t.valueAt 0x23FC .long) = some 0x1234 ∧
    stepped (((at1000 0xC401).setGbr 0x2000).putValue 0x2001 0x80 .byte) (fun t => t.reg 0) = some 0xFFFFFF80 ∧
    stepped (((at1000 0xC501).setGbr 0x2000).putValue 0x2002 0x80 .word) (fun t => t.reg 0) = some 0x80 ∧
    stepped (withT ((at1000 0x0529).setReg 5 0xA5A5A5A5)) (fun t => t.reg 5) = some 0x1 ∧
    stepped ((at1000 0x9100).putValue 0x1004 0x8000 .word) (fun t => t.reg 1) = some 0xFFFF8000 ∧
    stepped ((at1000 0xD100).putValue 0x1004 0x89ABCDEF .long) (fun t => t.reg 1) = some 0x89ABCDEF ∧
    stepped (at1000 0xC700) (fun t => t.reg 0) = some 0x1004 := by
  decide +kernel

/-- 95_test_vectors.md M1, M2, M3, M4, M5, M6, M7, M11, M12, M13. -/
theorem test_arithmetic1 :
    stepped (((at1000 0x310C).setReg 0 0x7FFFFFFF).setReg 1 0x1) (fun t => t.reg 1) = some 0x80000000 ∧
    stepped ((at1000 0x7201).setReg 2 0x0) (fun t => t.reg 2) = some 0x1 ∧
    stepped ((at1000 0x73FE).setReg 3 0x1) (fun t => t.reg 3) = some 0xFFFFFFFF ∧
    stepped (((at1000 0x313E).setReg 1 0x1).setReg 3 0xFFFFFFFF) (fun t => (t.sr.t, t.reg 1)) = some (true, 0x0) ∧
    stepped (((withT (at1000 0x302E)).setReg 0 0x0).setReg 2 0x0) (fun t => (t.sr.t, t.reg 0)) = some (false, 0x1) ∧
    stepped (((at1000 0x310F).setReg 0 0x1).setReg 1 0x7FFFFFFE) (fun t => (t.reg 1, t.sr.t)) = some (0x7FFFFFFF,
      false) ∧
    stepped (((at1000 0x310F).setReg 0 0x2).setReg 1 0x7FFFFFFE) (fun t => (t.reg 1, t.sr.t)) = some (0x80000000,
      true) ∧
    stepped (withT (((at1000 0x3103).setReg 0 0x7FFFFFFF).setReg 1 0x80000000)) (fun t => t.sr.t) = some false ∧
    stepped (((at1000 0x3102).setReg 0 0x7FFFFFFF).setReg 1 0x80000000) (fun t => t.sr.t) = some true ∧
    stepped (((at1000 0x232C).setReg 2 0x41424344).setReg 3 0x5859435A) (fun t => t.sr.t) = some true := by
  decide +kernel

/-- 95_test_vectors.md M16, M17, M18, M19, M39, M40, M41, M65, M66, M67. -/
theorem test_arithmetic2 :
    stepped ((at1000 0x610E).setReg 0 0x80) (fun t => t.reg 1) = some 0xFFFFFF80 ∧
    stepped ((at1000 0x610F).setReg 0 0x8000) (fun t => t.reg 1) = some 0xFFFF8000 ∧
    stepped ((at1000 0x610C).setReg 0 0xFFFFFF80) (fun t => t.reg 1) = some 0x80 ∧
    stepped ((at1000 0x610D).setReg 0 0xFFFF8000) (fun t => t.reg 1) = some 0x8000 ∧
    stepped ((at1000 0x610B).setReg 0 0x1) (fun t => t.reg 1) = some 0xFFFFFFFF ∧
    stepped ((at1000 0x611A).setReg 1 0x1) (fun t => (t.reg 1, t.sr.t)) = some (0xFFFFFFFF, true) ∧
    stepped (withT ((at1000 0x600A).setReg 0 0x0)) (fun t => (t.reg 0, t.sr.t)) = some (0xFFFFFFFF, true) ∧
    stepped (((at1000 0x3108).setReg 0 0x1).setReg 1 0x80000000) (fun t => t.reg 1) = some 0x7FFFFFFF ∧
    stepped (((at1000 0x313A).setReg 1 0x0).setReg 3 0x1) (fun t => (t.sr.t, t.reg 1)) = some (true, 0xFFFFFFFF) ∧
    stepped (((withT (at1000 0x302A)).setReg 0 0x0).setReg 2 0x0) (fun t => (t.sr.t, t.reg 0)) = some (true,
      0xFFFFFFFF) := by
  decide +kernel

/-- 95_test_vectors.md M68, M69, DA11, DA13, DA16, DA20, DA22, DA25, DA32, DA35. -/
theorem test_arithmetic3 :
    stepped (((at1000 0x310B).setReg 0 0x2).setReg 1 0x80000001) (fun t => (t.reg 1, t.sr.t)) = some (0x7FFFFFFF,
      true) ∧
    stepped (((at1000 0x332B).setReg 2 0xFFFFFFFE).setReg 3 0x7FFFFFFE) (fun t => (t.reg 3, t.sr.t)) = some
      (0x80000000, true) ∧
    stepped ((at1000 0x88FF).setReg 0 0xFFFFFFFF) (fun t => t.sr.t) = some true ∧
    stepped (((at1000 0x3100).setReg 0 0x5).setReg 1 0x5) (fun t => t.sr.t) = some true ∧
    stepped (withT (((at1000 0x3106).setReg 0 0x5).setReg 1 0x5)) (fun t => t.sr.t) = some false ∧
    stepped (((at1000 0x3107).setReg 0 0x80000000).setReg 1 0x7FFFFFFF) (fun t => t.sr.t) = some true ∧
    stepped (withT ((at1000 0x4115).setReg 1 0x0)) (fun t => t.sr.t) = some false ∧
    stepped ((at1000 0x4111).setReg 1 0x0) (fun t => t.sr.t) = some true ∧
    stepped (withT (((at1000 0x2107).setReg 0 0x80000000).setReg 1 0x80000000)) (fun t => (t.sr.m, t.sr.q, t.sr.t))
      = some (true, true, false) ∧
    stepped (((at1000 0x3104).setReg 0 0x30000).setReg 1 0x64) (fun t => (t.reg 1, t.sr.q, t.sr.t)) = some
      (0xFFFD00C8, true, false) := by
  decide +kernel

/-- 95_test_vectors.md DA42. -/
theorem test_arithmetic4 :
    stepped ((at1000 0x4110).setReg 1 0x1) (fun t => (t.reg 1, t.sr.t)) = some (0x0, true) := by
  decide +kernel

/-- 95_test_vectors.md M14, M15, M36, M37, M38, DC1, DC12. -/
theorem test_multiply1 :
    stepped (((at1000 0x310D).setReg 0 0xFFFFFFFE).setReg 1 0x5555) (fun t => (t.mach, t.macl)) = some (0xFFFFFFFF,
      0xFFFF5556) ∧
    stepped (((at1000 0x3105).setReg 0 0xFFFFFFFE).setReg 1 0x5555) (fun t => (t.mach, t.macl)) = some (0x5554,
      0xFFFF5556) ∧
    stepped (((at1000 0x0107).setReg 0 0xFFFFFFFE).setReg 1 0x5555) (fun t => t.macl) = some 0xFFFF5556 ∧
    stepped (((at1000 0x210F).setReg 0 0xFFFFFFFE).setReg 1 0x5555) (fun t => t.macl) = some 0xFFFF5556 ∧
    stepped (((at1000 0x210E).setReg 0 0x2).setReg 1 0xFFFFAAAA) (fun t => t.macl) = some 0x15554 ∧
    stepped ((((((at1000 0x401F).setReg 0 0x2000).setReg 1 0x3000).putValue 0x2000 0x3 .word).putValue 0x3000
      0xFFFE .word).setMacl 0xA) (fun t => (t.reg 0, t.reg 1, t.mach, t.macl)) = some (0x2002, 0x3002, 0x0, 0x4) ∧
    stepped ((((((at1000 0x001F).setReg 0 0x2000).setReg 1 0x3000).putValue 0x2000 0x7FFFFFFF .long).putValue
      0x3000 0x7FFFFFFF .long).setMacl 0x1) (fun t => (t.reg 0, t.reg 1, t.mach, t.macl)) = some (0x2004, 0x3004, 0x3FFFFFFF, 0x2) := by
  decide +kernel

/-- 95_test_vectors.md M8, M9, M10, M42, M43, M44, M45, M72, M73, M74. -/
theorem test_logic1 :
    stepped (((at1000 0x2109).setReg 0 0xAAAAAAAA).setReg 1 0x55555555) (fun t => t.reg 1) = some 0x0 ∧
    stepped ((at1000 0xC90F).setReg 0 0xFFFFFFFF) (fun t => t.reg 0) = some 0xF ∧
    stepped ((((at1000 0xCD80).setReg 0 0x10).setGbr 0x2000).putValue 0x2010 0xA5 .byte) (fun t => t.valueAt 0x2010
      .byte) = some 0x80 ∧
    stepped ((at1000 0x6107).setReg 0 0xAAAAAAAA) (fun t => t.reg 1) = some 0x55555555 ∧
    stepped (((at1000 0x210B).setReg 0 0xAAAA5555).setReg 1 0x55550000) (fun t => t.reg 1) = some 0xFFFF5555 ∧
    stepped ((at1000 0xCBF0).setReg 0 0x8) (fun t => t.reg 0) = some 0xF8 ∧
    stepped ((((at1000 0xCF50).setReg 0 0x10).setGbr 0x2000).putValue 0x2010 0xA5 .byte) (fun t => t.valueAt 0x2010
      .byte) = some 0xF5 ∧
    stepped ((at1000 0x2008).setReg 0 0x0) (fun t => t.sr.t) = some true ∧
    stepped ((at1000 0xC880).setReg 0 0xFFFFFF7F) (fun t => t.sr.t) = some true ∧
    stepped (withT ((((at1000 0xCCA5).setReg 0 0x10).setGbr 0x2000).putValue 0x2010 0xA5 .byte)) (fun t => t.sr.t)
      = some false := by
  decide +kernel

/-- 95_test_vectors.md M75, M76, M77, DL14. -/
theorem test_logic2 :
    stepped (((at1000 0x210A).setReg 0 0xAAAAAAAA).setReg 1 0x55555555) (fun t => t.reg 1) = some 0xFFFFFFFF ∧
    stepped ((at1000 0xCAF0).setReg 0 0xFFFFFFFF) (fun t => t.reg 0) = some 0xFFFFFF0F ∧
    stepped ((((at1000 0xCEA5).setReg 0 0x10).setGbr 0x2000).putValue 0x2010 0xA5 .byte) (fun t => t.valueAt 0x2010
      .byte) = some 0x0 ∧
    stepped (((at1000 0x411B).setReg 1 0x2001).putValue 0x2001 0x0 .byte) (fun t => (t.sr.t, t.valueAt 0x2001
      .byte)) = some (true, 0x80) := by
  decide +kernel

/-- 95_test_vectors.md M46, M47, M48, M49, M51, M52, M53, M54, M55, M56. -/
theorem test_shift1 :
    stepped ((at1000 0x4024).setReg 0 0x80000000) (fun t => (t.reg 0, t.sr.t)) = some (0x0, true) ∧
    stepped (withT ((at1000 0x4025).setReg 0 0x1)) (fun t => (t.reg 0, t.sr.t)) = some (0x80000000, true) ∧
    stepped ((at1000 0x4004).setReg 0 0x80000000) (fun t => (t.reg 0, t.sr.t)) = some (0x1, true) ∧
    stepped ((at1000 0x4005).setReg 0 0x1) (fun t => (t.reg 0, t.sr.t)) = some (0x80000000, true) ∧
    stepped ((at1000 0x4020).setReg 0 0x80000001) (fun t => (t.reg 0, t.sr.t)) = some (0x2, true) ∧
    stepped ((at1000 0x4021).setReg 0 0x80000001) (fun t => (t.reg 0, t.sr.t)) = some (0xC0000000, true) ∧
    stepped ((at1000 0x4000).setReg 0 0x80000001) (fun t => (t.reg 0, t.sr.t)) = some (0x2, true) ∧
    stepped ((at1000 0x4008).setReg 0 0x12345678) (fun t => t.reg 0) = some 0x48D159E0 ∧
    stepped ((at1000 0x4018).setReg 0 0x12345678) (fun t => t.reg 0) = some 0x34567800 ∧
    stepped ((at1000 0x4028).setReg 0 0x12345678) (fun t => t.reg 0) = some 0x56780000 := by
  decide +kernel

/-- 95_test_vectors.md M57, M58, M59, M60. -/
theorem test_shift2 :
    stepped ((at1000 0x4001).setReg 0 0x80000001) (fun t => (t.reg 0, t.sr.t)) = some (0x40000000, true) ∧
    stepped ((at1000 0x4009).setReg 0 0x12345678) (fun t => t.reg 0) = some 0x48D159E ∧
    stepped ((at1000 0x4019).setReg 0 0x12345678) (fun t => t.reg 0) = some 0x123456 ∧
    stepped ((at1000 0x4029).setReg 0 0x12345678) (fun t => t.reg 0) = some 0x1234 := by
  decide +kernel

/-- 95_test_vectors.md DB1, DB3, DB7, DB9, DB10, DB13, DB15, DB17, DB18, DB19. -/
theorem test_branch1 :
    stepped (withT (at1000 0x8900)) (fun t => (t.pc, t.slot)) = some (0x1004, none) ∧
    stepped (at1000 0x8B7F) (fun t => (t.pc, t.slot)) = some (0x1102, none) ∧
    stepped (withT (at1000 0x8DFF)) (fun t => (t.pc, t.slot)) = some (0x1002, some 0x1002) ∧
    stepped (at1000 0x8F80) (fun t => (t.pc, t.slot)) = some (0x1002, some 0xF04) ∧
    stepped (at1000 0xA7FF) (fun t => (t.pc, t.slot)) = some (0x1002, some 0x2002) ∧
    stepped (at1000 0xBFFF) (fun t => (t.pc, t.slot, t.pr)) = some (0x1002, some 0x1002, 0x1004) ∧
    stepped ((at1000 0x0123).setReg 1 0xFFFFFFFC) (fun t => (t.pc, t.slot)) = some (0x1002, some 0x1000) ∧
    stepped ((at1000 0x0103).setReg 1 0xFFFFF000) (fun t => (t.pc, t.slot, t.pr)) = some (0x1002, some 0x4, 0x1004) ∧
    stepped ((at1000 0x412B).setReg 1 0x400000) (fun t => (t.pc, t.slot)) = some (0x1002, some 0x400000) ∧
    stepped ((at1000 0x410B).setReg 1 0x3000) (fun t => (t.pc, t.slot, t.pr)) = some (0x1002, some 0x3000, 0x1004)
      := by
  decide +kernel

/-- 95_test_vectors.md DB20. -/
theorem test_branch2 :
    stepped ((at1000 0x000B).setPr 0x1234) (fun t => (t.pc, t.slot)) = some (0x1002, some 0x1234) := by
  decide +kernel

/-- 95_test_vectors.md M20, M21, M22, M23, M50, M61, M62, M63, M64, M79. -/
theorem test_system1 :
    stepped ((at1000 0x400E).setReg 0 0xFFFFFFFF) (fun t => t.sr.toWord) = some 0x3F3 ∧
    stepped (((at1000 0x4F17).setReg 15 0x10000000).putValue 0x10000000 0x89ABCDEF .long) (fun t => (t.reg 15,
      t.gbr)) = some (0x10000004, 0x89ABCDEF) ∧
    stepped ((at1000 0x402A).setReg 0 0x12345678) (fun t => t.pr) = some 0x12345678 ∧
    stepped (((at1000 0x4F16).setReg 15 0x10000000).putValue 0x10000000 0x89ABCDEF .long) (fun t => (t.reg 15,
      t.macl)) = some (0x10000004, 0x89ABCDEF) ∧
    stepped (at1000 0x0018) (fun t => t.sr.t) = some true ∧
    stepped ((at1000 0x0002).setReg 0 0xFFFFFFFF) (fun t => t.reg 0) = some 0x0 ∧
    stepped (((at1000 0x4F13).setReg 15 0x10000004).setGbr 0x89ABCDEF) (fun t => (t.reg 15, t.valueAt 0x10000000
      .long)) = some (0x10000000, 0x89ABCDEF) ∧
    stepped ((at1000 0x000A).setReg 0 0xFFFFFFFF) (fun t => t.reg 0) = some 0x0 ∧
    stepped (((at1000 0x4F22).setReg 15 0x10000004).setPr 0x1004) (fun t => (t.reg 15, t.valueAt 0x10000000 .long))
      = some (0x10000000, 0x1004) ∧
    stepped (withT (at1000 0x0008)) (fun t => t.sr.t) = some false := by
  decide +kernel

/-- 95_test_vectors.md DM11, DY3, DY4, DY5, DY6, DY10, DY11, DY12, DY13, DY14. -/
theorem test_system2 :
    stepped (((at1000 0x0028).setMach 0x123).setMacl 0x456) (fun t => (t.mach, t.macl)) = some (0x0, 0x0) ∧
    stepped ((at1000 0x401E).setReg 0 0x12345679) (fun t => t.gbr) = some 0x12345679 ∧
    stepped ((at1000 0x402E).setReg 0 0x6000000) (fun t => t.vbr) = some 0x6000000 ∧
    stepped ((((at1000 0x4107).setReg 1 0x2000).putValue 0x2000 0xFFFFFC0D .long).setSr 0x3F3) (fun t => (t.reg 1,
      t.sr.toWord)) = some (0x2004, 0x1) ∧
    stepped (((at1000 0x4127).setReg 1 0x2000).putValue 0x2000 0x100 .long) (fun t => (t.reg 1, t.vbr)) = some
      (0x2004, 0x100) ∧
    stepped ((at1000 0x0112).setGbr 0xFFFFFFFF) (fun t => t.reg 1) = some 0xFFFFFFFF ∧
    stepped ((at1000 0x0122).setVbr 0x6000000) (fun t => t.reg 1) = some 0x6000000 ∧
    stepped (((at1000 0x4F03).setReg 15 0x2000).setSr 0x3F3) (fun t => (t.reg 15, t.valueAt 0x1FFC .long)) = some
      (0x1FFC, 0x3F3) ∧
    stepped (((at1000 0x4F23).setReg 15 0x2000).setVbr 0x400) (fun t => (t.reg 15, t.valueAt 0x1FFC .long)) = some
      (0x1FFC, 0x400) ∧
    stepped ((at1000 0x400A).setReg 0 0xFFFFFFFF) (fun t => t.mach) = some 0xFFFFFFFF := by
  decide +kernel

/-- 95_test_vectors.md DY17, DY19, DY21, DY23, DY24, DY25, DY26, DY29. -/
theorem test_system3 :
    stepped ((at1000sh7000 0x401A).setReg 0 0x12345678) (fun t => t.macl) = some 0x12345678 ∧
    stepped (((at1000sh7000 0x4106).setReg 1 0x2000).putValue 0x2000 0xFFFFFDFF .long) (fun t => (t.reg 1, t.mach))
      = some (0x2004, 0x1FF) ∧
    stepped (((at1000 0x4F26).setReg 15 0x1FFC).putValue 0x1FFC 0x1004 .long) (fun t => (t.reg 15, t.pr)) = some
      (0x2000, 0x1004) ∧
    stepped (((at1000 0x011A).setMacl 0x89ABCDEF).setReg 1 0x0) (fun t => t.reg 1) = some 0x89ABCDEF ∧
    stepped (((at1000 0x012A).setPr 0x1004).setReg 1 0x0) (fun t => t.reg 1) = some 0x1004 ∧
    stepped (((at1000 0x4F02).setReg 15 0x2000).setMach 0x12345678) (fun t => (t.reg 15, t.valueAt 0x1FFC .long)) =
      some (0x1FFC, 0x12345678) ∧
    stepped (((at1000 0x4112).setReg 1 0x2000).setMacl 0x9) (fun t => (t.reg 1, t.valueAt 0x1FFC .long)) = some
      (0x1FFC, 0x9) ∧
    stepped ((at1000 0x0009).setSr 0x3F3) (fun t => t.pc) = some 0x1002 := by
  decide +kernel

/-- DIV0U clears M, Q and T (95_test_vectors.md DA34); MOV.L Rm,@(R0,Rn) stores a longword (40_data_transfer.md R156);
SLEEP leaves `pc` at the next instruction (95_test_vectors.md E17) and on a chip without devices enters sleep mode whatever
the environment says of SBY (60_exceptions.md R434). -/
theorem test_divisionSetupIndexedStoreSleep :
    stepped ((at1000 0x0019).setMQT true true true) (fun t => t.sr.toWord) = some 0 ∧
    stepped ((((at1000 0x0216).setReg 0 0x4).setReg 2 0x2000).setReg 1 0x12345678) (fun t => t.valueAt 0x2004 .long) =
      some 0x12345678 ∧
    stepped (at1000 0x001B) (fun t => (t.mode, t.pc)) = some (.sleep, 0x1002) ∧
    stepped { at1000 0x001B with sby := true } (fun t => (t.mode, t.pc)) = some (.sleep, 0x1002) := by
  decide +kernel

/-- TRAPA #H'20 at H'400 and the RTE of its handler (60_exceptions.md R420). -/
theorem test_trapAndReturn :
    stepped ((((({ State.reset with pc := 0x400 }.withFetchWord 16 0xC320).setReg 15 0x2000).setSr 0xF1).putValue 0x80
      0x1000 .long)) (fun t => (t.longAt 0x1FFC, t.longAt 0x1FF8, t.reg 15, t.sr.toWord, t.pc)) =
      some (0xF1, 0x402, 0x1FF8, 0xF1, 0x1000) ∧
    stepped ((((at1000 0x002B).setReg 15 0x1FF8).putValue 0x1FF8 0x402 .long).putValue 0x1FFC 0xF1 .long)
      (fun t => (t.reg 15, t.sr.toWord, t.pc, t.slot)) = some (0x2000, 0xF1, 0x1002, some 0x402) := by
  decide +kernel

/-! ### Exceptions, interrupts and reset -/

/-- The common start of 95_test_vectors.md section 4: R15, SR and the vectors 4, 6, 9, 11 and 64. -/
def scenario (code : Nat) : State :=
  ((((((at1000 code).setReg 15 0x2000).setSr 0xF1).putValue 0x10 0x3000 .long).putValue 0x18 0x3100 .long).putValue
    0x24 0x3200 .long).putValue 0x2C 0x3300 .long |>.putValue 0x100 0x3400 .long

/-- What 95_test_vectors.md section 4 asks of each scenario. -/
structure Seen where
  pc : Word
  slot : Option Word
  sp : Word
  savedPc : Word
  savedSr : Word
deriving DecidableEq, Repr

/-- What a state shows of an exception taken from the common start. -/
def entered (t : State) : Seen := ⟨t.pc, t.slot, t.reg 15, t.longAt 0x1FF8, t.longAt 0x1FFC⟩

/-- An environment's entry that presents these requests. -/
def requesting (requests : List Request) : EnvInput := { EnvInput.quiet with requests := requests }

/-- Scenarios E1 to E4: illegal instructions, the last two in a delay slot. -/
theorem test_illegalInstructions :
    stepped (scenario 0xFFFF) entered = some ⟨0x3000, none, 0x1FF8, 0x1000, 0xF1⟩ ∧
    stepped { scenario 0x4510 with params := { Params.default with series := .sh7000 } } entered =
      some ⟨0x3000, none, 0x1FF8, 0x1000, 0xF1⟩ ∧
    stepped { scenario 0x8900 with slot := some 0x1200 } entered = some ⟨0x3100, none, 0x1FF8, 0x1200, 0xF1⟩ ∧
    stepped { scenario 0xFFFF with slot := some 0x4000 } entered = some ⟨0x3100, none, 0x1FF8, 0x4000, 0xF1⟩ := by
  decide +kernel

/-- Scenarios E5 to E9: address errors, with the register updates that stand; the stacked PC is left open. -/
theorem test_addressErrors :
    stepped ((scenario 0x6212).setReg 1 0x2002) (fun t => (t.pc, t.reg 2, t.longAt 0x1FFC)) =
      some (0x3200, 0, 0xF1) ∧
    stepped ((scenario 0x4122).setReg 1 0x4002) (fun t => (t.pc, t.reg 1, t.longAt 0x1FFC)) =
      some (0x3200, 0x3FFE, 0xF1) ∧
    stepped ((scenario 0x2105).setReg 1 0x4001) (fun t => (t.pc, t.reg 1, t.longAt 0x1FFC)) =
      some (0x3200, 0x4001, 0xF1) ∧
    stepped ((((scenario 0x401F).setReg 0 0x4000).setReg 1 0x5001).putValue 0x4000 3 .word)
      (fun t => (t.pc, t.reg 0, t.reg 1, t.macl)) = some (0x3200, 0x4002, 0x5001, 0) ∧
    stepped { scenario 0x0009 with pc := 0x4001 } (fun t => (t.pc, t.longAt 0x1FFC)) = some (0x3200, 0xF1) := by
  decide +kernel

/-- Scenarios E12 to E17: NMI, a level above and at the mask, a request held off by LDC and by a pending branch, and one that
ends sleep. -/
theorem test_interrupts :
    stepped { scenario 0x0009 with inputs := [requesting [.nmi]] } entered =
      some ⟨0x3300, none, 0x1FF8, 0x1000, 0xF1⟩ ∧
    stepped { (scenario 0x0009).setSr 0x31 with inputs := [requesting [.irq 64 5]] } (fun t => (entered t, t.sr.i)) =
      some (⟨0x3400, none, 0x1FF8, 0x1000, 0x31⟩, 5) ∧
    stepped { (scenario 0x0009).setSr 0x51 with inputs := [requesting [.irq 64 5]] } (fun t => t.pc) = some 0x1002 ∧
    stepped { (scenario 0x0009).setSr 0 with inhibit := true, inputs := [requesting [.irq 64 5]] } (fun t => t.pc) =
      some 0x1002 ∧
    stepped { scenario 0x7001 with slot := some 0x1200, inputs := [requesting [.nmi]] } (fun t => (t.pc, t.reg 0)) =
      some (0x1200, 1) ∧
    stepped { scenario 0x0009 with pc := 0x1002, mode := .sleep, inputs := [requesting [.nmi]] } entered =
      some ⟨0x3300, none, 0x1FF8, 0x1002, 0xF1⟩ := by
  decide +kernel

/-- A fault inside entry (60_exceptions.md R409): a misaligned stack, and a misaligned vector. -/
theorem test_faultInEntry :
    stepped ((scenario 0xFFFF).setReg 15 0x2002) entered = none ∧ stepped ((scenario 0xFFFF).setVbr 2) entered =
      none := by
  decide +kernel

/-- A program stopped by a reset request, with a start address and a stack in the vector table. -/
def resetting (kind : ResetKind) : State :=
  { ((((scenario 0x0009).putValue 0 0x400 .long).putValue 4 0x2000 .long).putValue 8 0x500 .long).putValue 12 0x3000
      .long with
    vbr := 0x1000, slot := some 0x1200, inputs := [{ EnvInput.quiet with reset := some kind }] }

/-- A reset from any state (70_reset_and_hazards.md R450). -/
theorem test_reset :
    stepped (resetting .powerOn) (fun t => (t.pc, t.reg 15, t.vbr)) = some (0x400, 0x2000, 0) ∧
    stepped (resetting .powerOn) (fun t => (t.sr.i, t.slot, t.inhibit, t.mode)) =
      some (0xF, none, false, .programExecution) ∧
    stepped (resetting .manual) (fun t => (t.pc, t.reg 15, t.vbr)) = some (0x500, 0x3000, 0) := by
  decide +kernel

/-- The instruction directly after an untaken BF/S (45_branch.md R315): an ADD runs, a BT is refused. -/
theorem test_afterUntaken :
    stepped { at1000 0x7001 with afterUntaken := true } (fun t => t.reg 0) = some 1 ∧
    exec (.bt 0) { at1000 0x8900 with afterUntaken := true } = .refused .disputedAfterUntaken := by
  exact ⟨by decide +kernel, rfl⟩

/-! ### The hypotheses of the statements can be met -/

theorem ordinary_of {s : State} {a : Word} {sz : Size} (h : (sz.aligned a && s.region a == .ram) = true) :
    s.ordinary a sz := by
  simpa [State.ordinary, Size.aligned] using h

theorem device_of {s : State} {a : Word} {sz : Size}
    (h : (sz.aligned a && (s.region a == .periph16 || s.region a == .periph8 && sz != .long)) = true) :
    s.device a sz := by
  simpa [State.device, Size.aligned] using h

theorem misaccess_of {s : State} {a : Word} {sz : Size}
    (h : (!sz.aligned a || s.region a == .periph8 && sz == .long) = true) : s.misaccess a sz := by
  simpa [State.misaccess, Size.aligned] using h

theorem unmapped_of {s : State} {a : Word} {sz : Size} (h : (sz.aligned a && s.region a == .unmapped) = true) :
    s.unmapped a sz := by
  simpa [State.unmapped, Size.aligned] using h

theorem canEnter_of {s : State} {v : BitVec 8} (h1 : s.ordinary (s.reg Reg.sp - 4) .long)
    (h2 : s.ordinary (s.reg Reg.sp - 8) .long) (h3 : s.ordinary (s.vbr + v.zeroExtend 32 * 4) .long) : s.canEnter v :=
  ⟨h1, h2, h3⟩

/-- A chip with 8-bit device registers at H'5000 and H'7100, others at H'5100, H'7000 and H'7200, and nothing at H'6000 and
H'7300. -/
def mapped (code : Nat) (series : Series) : State :=
  { at1000 code with params := { Params.default with
      series := series
      memoryMap := [{ base := 0x5000, size := 0x100, kind := .periph8 },
        { base := 0x5100, size := 0x100, kind := .periph16 }, { base := 0x6000, size := 0x100, kind := .unmapped },
        { base := 0x7000, size := 0x100, kind := .periph16 }, { base := 0x7100, size := 0x100, kind := .periph8 },
        { base := 0x7200, size := 0x100, kind := .periph16 }, { base := 0x7300, size := 0x100, kind := .unmapped }] } }

/-- SLEEP with SBY set, on a chip with devices (46_system_control.md R349). -/
theorem test_standby :
    stepped { mapped 0x001B .sh7600 with sby := true } (fun t => (t.mode, t.pc)) = some (.standby, 0x1002) ∧
    stepped (mapped 0x001B .sh7600) (fun t => t.mode) = some .sleep := by
  decide +kernel

/-- A region behind another one that covers it, or with no address, is no device of the chip. -/
theorem test_hasDevices :
    hasDevices [{ base := 0, size := 8, kind := .ram }, { base := 4, size := 4, kind := .periph8 }] = false ∧
    hasDevices [{ base := 4, size := 0, kind := .periph16 }] = false ∧
    hasDevices [{ base := 2 ^ 32, size := 4, kind := .periph16 }] = false ∧
    hasDevices [{ base := 0, size := 8, kind := .unmapped }, { base := 4, size := 5, kind := .periph8 }] = true := by
  decide

theorem witness_EncodeOfDecodeIsTheCode : decodeWord 0x6103 = some (.movReg 0 1) := by decide

/-- A step with the invariant before it, sequential and with a branch pending; the hypotheses of EveryStepKeepsInvariant
and of NoStepChangesTheParameters. -/
theorem witness_EveryStepKeepsInvariant :
    ((at1000 0x0009).Inv ∧ ∃ t, step (at1000 0x0009) = .next t) ∧
    (State.Inv { at1000 0x0009 with slot := some 0x2000 } ∧
      ∃ t, step { at1000 0x0009 with slot := some 0x2000 } = .next t) ∧
    (State.Inv { at1000sh7000 0x0009 with mach := 0xFFFFFE00 } ∧
      ∃ t, step { at1000sh7000 0x0009 with mach := 0xFFFFFE00 } = .next t) := by
  refine ⟨⟨⟨by decide, ?_, ?_, ?_, ?_⟩, _, rfl⟩, ⟨⟨by decide, ?_, ?_, ?_, ?_⟩, _, rfl⟩, ⟨⟨by decide, ?_, ?_, ?_, ?_⟩, _, rfl⟩⟩ <;>
    first | decide | (unfold State.machHeld; decide) | (unfold State.quiescent; decide)

/-- An entry of the environment that asks for a DMA address error and the highest interrupts. -/
def busy : EnvInput := { EnvInput.quiet with dmaError := true, requests := [.irq 64 15, .nmi] }

/-- No input; a request at the mask; a busy environment while a branch is pending, and after an interrupt-disabled
instruction. -/
theorem witness_StepRunsTheDecodedInstruction :
    ((at1000 0x0009).mode = .programExecution ∧ (at1000 0x0009).ordinary (at1000 0x0009).pc .word ∧
      decodeWord ((at1000 0x0009).byteAt 0x1000 ++ (at1000 0x0009).byteAt (0x1000 + 1)) = some .nop ∧
      (at1000 0x0009).inputs = []) ∧
    EnvInput.idleFor (requesting [.irq 64 15]) { at1000 0x0009 with sr := StatusReg.ofWord 0xF0 } ∧
    EnvInput.idleFor busy { at1000 0x0009 with slot := some 0x2000 } ∧
    EnvInput.idleFor busy { at1000 0x0009 with inhibit := true } := by
  refine ⟨⟨rfl, ordinary_of (by decide), by decide, rfl⟩, ?_, ?_, ?_⟩ <;> unfold EnvInput.idleFor <;> decide

/-- SLEEP with SBY clear, and set on a chip with a device register; the hypotheses of Sleep's two modes too. -/
theorem witness_OnlySleepEntersPowerDown :
    (at1000 0x001B).mode = .programExecution ∧
    (∃ t, step (at1000 0x001B) = .next t ∧ t.mode = .sleep) ∧
    (∃ t, step { mapped 0x001B .sh7600 with sby := true } = .next t ∧ t.mode = .standby) ∧
    State.deviceAt { mapped 0x001B .sh7600 with sby := true } 0x5000 :=
  ⟨rfl, ⟨_, rfl, rfl⟩, ⟨_, rfl, by decide⟩, .inl (by decide)⟩

/-- Each of the three registers changed by an instruction. -/
theorem witness_OnlyListedInstructionsWriteGbrVbrPr :
    (∃ t, exec (.ldcGbr 1) ((at1000 0).setReg 1 5) = .next t ∧ t.gbr ≠ (at1000 0).gbr) ∧
    (∃ t, exec (.ldcVbr 1) ((at1000 0).setReg 1 5) = .next t ∧ t.vbr ≠ (at1000 0).vbr) ∧
    (∃ t, exec (.bsr 1) (at1000 0) = .next t ∧ t.pr ≠ (at1000 0).pr) :=
  ⟨⟨_, rfl, by decide⟩, ⟨_, rfl, by decide⟩, ⟨_, rfl, by decide⟩⟩

theorem witness_OnlyListedInstructionsWriteTheAccumulator :
    (∃ t, exec (.ldsMach 1) ((at1000 0).setReg 1 5) = .next t ∧ t.mach ≠ (at1000 0).mach) ∧
    (∃ t, exec (.ldsMacl 1) ((at1000 0).setReg 1 5) = .next t ∧ t.macl ≠ (at1000 0).macl) :=
  ⟨⟨_, rfl, by decide⟩, ⟨_, rfl, by decide⟩⟩

/-- Every field of SR changed by an instruction. -/
theorem witness_OnlyListedInstructionsWriteSr :
    (∃ t, exec (.ldcSr 1) ((at1000 0).setReg 1 0x3F3) = .next t ∧ t.sr.s ≠ (at1000 0).sr.s ∧
      t.sr.i ≠ (at1000 0).sr.i ∧ t.sr.m ≠ (at1000 0).sr.m ∧ t.sr.q ≠ (at1000 0).sr.q ∧ t.sr.t ≠ (at1000 0).sr.t) ∧
    (∃ t, exec .sett (at1000 0) = .next t ∧ t.sr.t ≠ (at1000 0).sr.t) :=
  ⟨⟨_, rfl, by decide⟩, ⟨_, rfl, by decide⟩⟩

/-- The last byte, word and longword of the address space. -/
theorem witness_ReadAfterWrite :
    (at1000 0).ordinary 0xFFFFFFFF .byte ∧ (at1000 0).ordinary 0xFFFFFFFE .word ∧
    (at1000 0).ordinary 0xFFFFFFFC .long ∧ ∃ t, (at1000 0).memWrite 0xFFFFFFFC .long 0x12345678 = .ok t :=
  ⟨ordinary_of (by decide), ordinary_of (by decide), ordinary_of (by decide), _, rfl⟩

/-- Every kind of access at the edges of the regions of `mapped`: the hypotheses of the loads and the stores. -/
theorem witness_accesses :
    ((mapped 0 .sh7600).ordinary 0x4FFF .byte ∧ (mapped 0 .sh7600).ordinary 0x4FFE .word ∧
      (mapped 0 .sh7600).ordinary 0x4FFC .long) ∧
    ((mapped 0 .sh7600).device 0x5000 .byte ∧ (mapped 0 .sh7600).device 0x50FE .word ∧
      (mapped 0 .sh7600).device 0x51FC .long) ∧
    ((mapped 0 .sh7600).misaccess 0x4FFF .word ∧ (mapped 0 .sh7600).misaccess 0x4FFE .long ∧
      (mapped 0 .sh7600).misaccess 0x50FC .long) ∧
    ((mapped 0 .sh7600).unmapped 0x6000 .byte ∧ (mapped 0 .sh7600).unmapped 0x60FE .word ∧
      (mapped 0 .sh7600).unmapped 0x60FC .long) :=
  ⟨⟨ordinary_of (by decide), ordinary_of (by decide), ordinary_of (by decide)⟩,
    ⟨device_of (by decide), device_of (by decide), device_of (by decide)⟩,
    ⟨misaccess_of (by decide), misaccess_of (by decide), misaccess_of (by decide)⟩,
    ⟨unmapped_of (by decide), unmapped_of (by decide), unmapped_of (by decide)⟩⟩

/-- `mapped` with one value in R1, R2 and R3, in R0 an offset of 0, and in GBR the value. -/
def based (a : Word) : State := ((((mapped 0 .sh7600).setReg 1 a).setReg 2 a).setReg 3 a).setGbr a

theorem witness_LoadsThroughRegisters :
    (based 0x4FFE).ordinary ((based 0x4FFE).reg 1) .word ∧ (based 0x50FE).device ((based 0x50FE).reg 1) .word ∧
    (based 0x50FC).misaccess ((based 0x50FC).reg 1) .long ∧
    (based 0x6000).unmapped ((based 0x6000).reg 1 + (based 0x6000).reg 0) .byte ∧ (2 : Reg) ≠ 1 :=
  ⟨ordinary_of (by decide), device_of (by decide), misaccess_of (by decide), unmapped_of (by decide), by decide⟩

/-- The displacements at their largest. -/
theorem witness_LoadsWithDisplacement :
    (based 0x4F00).ordinary ((based 0x4F00).gbr + (0xFF#8).zeroExtend 32) .byte ∧
    (based 0x4F02).device ((based 0x4F02).gbr + (0xFF#8).zeroExtend 32 * 2) .word ∧
    (based 0x4FC1).misaccess ((based 0x4FC1).reg 1 + (0xF#4).zeroExtend 32 * 4) .long ∧
    (based 0x5FC4).unmapped ((based 0x5FC4).reg 1 + (0xF#4).zeroExtend 32 * 4) .long :=
  ⟨ordinary_of (by decide), device_of (by decide), misaccess_of (by decide), unmapped_of (by decide)⟩

/-- The pre-decrement from just above each region. -/
theorem witness_StoresThroughRegisters :
    (based 0x5000).ordinary ((based 0x5000).reg 1 - 4) .long ∧ (based 0x5100).device ((based 0x5100).reg 1 - 2) .word ∧
    (based 0x5100).misaccess ((based 0x5100).reg 1 - 4) .long ∧
    (based 0x6100).unmapped ((based 0x6100).reg 1 - 1) .byte :=
  ⟨ordinary_of (by decide), device_of (by decide), misaccess_of (by decide), unmapped_of (by decide)⟩

theorem witness_StoresWithDisplacement :
    (based 0x4FF0).ordinary ((based 0x4FF0).reg 1 + (0xF#4).zeroExtend 32) .byte ∧
    (based 0x4FE2).device ((based 0x4FE2).reg 1 + (0xF#4).zeroExtend 32 * 2) .word ∧
    (based 0x4D00).misaccess ((based 0x4D00).gbr + (0xC1#8).zeroExtend 32 * 4) .long ∧
    (based 0x5C04).unmapped ((based 0x5C04).gbr + (0xFF#8).zeroExtend 32 * 4) .long :=
  ⟨ordinary_of (by decide), device_of (by decide), misaccess_of (by decide), unmapped_of (by decide)⟩

/-- The series the SH7600 forms ask for: DivisionInitialisationAndDecrement, Products, MultiplyAccumulateLong. -/
theorem witness_sh7600 : (at1000 0).params.series = .sh7600 ∧ (at1000sh7000 0).params.series = .sh7000 := ⟨rfl, rfl⟩

/-- The partial remainder at both ends of its range, with the divisor 5. -/
theorem witness_UnsignedDivisionStepKeepsTheRemainder :
    (1 : Reg) ≠ 2 ∧ (at1000 0).sr.m = false ∧
    (let s := (((at1000 0).setReg 1 5).setReg 2 0xFFFFFFFB).setQT true false;
    let p : Int := (s.reg 2).toNat - 2 ^ 32 * bitNat s.sr.q;
    -((s.reg 1).toNat : Int) = p ∧ p < (s.reg 1).toNat) ∧
    (let s := ((at1000 0).setReg 1 5).setReg 2 4;
    let p : Int := (s.reg 2).toNat - 2 ^ 32 * bitNat s.sr.q;
    -((s.reg 1).toNat : Int) ≤ p ∧ p = (s.reg 1).toNat - 1) := by
  decide

/-- Two registers at the last ordinary longword and at a device register, and one register for both operands; a first and a
second operand that is an address error or unmapped. -/
theorem witness_MultiplyAccumulateLong :
    (based 0x4FFC).params.series = .sh7600 ∧ (based 0x4FFC).ordinary ((based 0x4FFC).reg 2) .long ∧
    (based 0x4FFC).ordinary ((based 0x4FFC).reg 1) .long ∧ (based 0x5100).device ((based 0x5100).reg 2) .long ∧
    (based 0x4FF8).ordinary ((based 0x4FF8).reg 2 + BitVec.ofNat 32 Size.long.bytes) .long ∧
    (based 0x4FFE).misaccess ((based 0x4FFE).reg 2) .long ∧ (based 0x6000).unmapped ((based 0x6000).reg 2) .long ∧
    (based 0x4FFC).misaccess ((based 0x4FFC).reg 2 + BitVec.ofNat 32 Size.long.bytes) .long ∧
    ((based 0x70FC).device ((based 0x70FC).reg 2) .long ∧
      (based 0x70FC).misaccess ((based 0x70FC).reg 2 + BitVec.ofNat 32 Size.long.bytes) .long) ∧
    ((based 0x72FC).device ((based 0x72FC).reg 2) .long ∧
      (based 0x72FC).unmapped ((based 0x72FC).reg 2 + BitVec.ofNat 32 Size.long.bytes) .long) ∧
    ((based 0x6000).setReg 2 0x4000).unmapped (((based 0x6000).setReg 2 0x4000).reg 1) .long :=
  ⟨rfl, ordinary_of (by decide), ordinary_of (by decide), device_of (by decide), ordinary_of (by decide),
    misaccess_of (by decide), unmapped_of (by decide), misaccess_of (by decide),
    ⟨device_of (by decide), misaccess_of (by decide)⟩, ⟨device_of (by decide), unmapped_of (by decide)⟩,
    unmapped_of (by decide)⟩

theorem witness_MultiplyAccumulateWord :
    (based 0x4FFE).machHeld ∧ State.machHeld { at1000sh7000 0 with mach := 0x1FF } ∧
    (based 0x4FFE).ordinary ((based 0x4FFE).reg 2) .word ∧ (based 0x4FFE).ordinary ((based 0x4FFE).reg 1) .word ∧
    (based 0x4FFE).device ((based 0x4FFE).reg 2 + BitVec.ofNat 32 Size.word.bytes) .word ∧
    (based 0x4FFF).misaccess ((based 0x4FFF).reg 2) .word ∧ (based 0x60FE).unmapped ((based 0x60FE).reg 2) .word ∧
    ((based 0x4FFF).setReg 2 0x5100).device (((based 0x4FFF).setReg 2 0x5100).reg 2) .word ∧
    ((based 0x4FFF).setReg 2 0x5100).misaccess (((based 0x4FFF).setReg 2 0x5100).reg 1) .word ∧
    ((based 0x72FE).device ((based 0x72FE).reg 2) .word ∧
      (based 0x72FE).unmapped ((based 0x72FE).reg 2 + BitVec.ofNat 32 Size.word.bytes) .word) ∧
    ((based 0x4FFF).setReg 2 0x4000).misaccess (((based 0x4FFF).setReg 2 0x4000).reg 1) .word ∧
    ((based 0x6000).setReg 2 0x5FFE).unmapped (((based 0x6000).setReg 2 0x5FFE).reg 1) .word := by
  refine ⟨?_, ?_, ordinary_of (by decide), ordinary_of (by decide), device_of (by decide), misaccess_of (by decide),
    unmapped_of (by decide), device_of (by decide), misaccess_of (by decide),
    ⟨device_of (by decide), unmapped_of (by decide)⟩, misaccess_of (by decide), unmapped_of (by decide)⟩ <;>
    unfold State.machHeld <;> decide

/-- The byte at @(R0,GBR) and at @Rn, of the statements Tests and ByteReadModifyWrite. -/
theorem witness_ByteReadModifyWrite :
    (based 0x4FFF).ordinary ((based 0x4FFF).gbr + (based 0x4FFF).reg 0) .byte ∧
    (based 0x51FF).device ((based 0x51FF).gbr + (based 0x51FF).reg 0) .byte ∧
    (based 0x6000).unmapped ((based 0x6000).gbr + (based 0x6000).reg 0) .byte ∧
    (based 0x4FFF).ordinary ((based 0x4FFF).reg 1) .byte ∧ (based 0x5000).device ((based 0x5000).reg 1) .byte ∧
    (based 0x60FF).unmapped ((based 0x60FF).reg 1) .byte :=
  ⟨ordinary_of (by decide), device_of (by decide), unmapped_of (by decide), ordinary_of (by decide),
    device_of (by decide), unmapped_of (by decide)⟩

/-- ConditionalBranches, DelayedConditionalBranches and UnconditionalBranches, with T clear and set. -/
theorem witness_Branches :
    (at1000 0).mayBranch ∧ (at1000 0).sr.t = false ∧ (withT (at1000 0)).mayBranch ∧ (withT (at1000 0)).sr.t = true ∧
    (at1000 0).params.series = .sh7600 := ⟨⟨rfl, rfl⟩, rfl, ⟨rfl, rfl⟩, rfl, rfl⟩

/-- Every chip without a memory map can enter an exception from a multiple of 4 in R15 and in VBR. -/
theorem canEnter_ram {s : State} {v : BitVec 8} (hm : s.params.memoryMap = []) (hs : (s.reg Reg.sp).toNat % 4 = 0)
    (hv : s.vbr.toNat % 4 = 0) : s.canEnter v := by
  have hr : ∀ a, s.region a = .ram := fun a => by simp [State.region, hm, regionIn]
  have hz : (v.zeroExtend 32 * 4 : Word).toNat % 4 = 0 := by
    simp [BitVec.toNat_mul]
  exact ⟨⟨by simp only [Size.bytes]; bv_omega, hr _⟩, ⟨by simp only [Size.bytes]; bv_omega, hr _⟩,
    ⟨by simp only [Size.bytes]; bv_omega, hr _⟩⟩

/-- A stack of eight bytes at the bottom of memory, one that wraps to the top, and the last vector of the address space. -/
theorem witness_ExceptionEntry :
    ((at1000 0).setReg 15 8).canEnter 0 ∧ (at1000 0).canEnter 255 ∧ ((at1000 0).setVbr 0xFFFFFC00).canEnter 255 :=
  ⟨canEnter_ram rfl (by decide) (by decide), canEnter_ram rfl (by decide) (by decide),
    canEnter_ram rfl (by decide) (by decide)⟩

theorem witness_SlotIllegalInstructions :
    (Instr.bt 0).rewritesPc = true ∧ State.slot { at1000 0 with slot := some 0x2000 } = some 0x2000 ∧
    State.canEnter { at1000 0 with slot := some 0x2000 } 6 :=
  ⟨rfl, rfl, canEnter_ram rfl (by decide) (by decide)⟩

theorem witness_DisputedInstructionsAreRefused :
    Instr.rts.rewritesPc = true ∧ State.slot { at1000 0 with afterUntaken := true } = none ∧
    State.afterUntaken { at1000 0 with afterUntaken := true } = true := ⟨rfl, rfl, rfl⟩

theorem witness_SH7600InstructionsOnTheSH7000 :
    (Instr.dt 1).wellFormed (at1000sh7000 0).params.series = false ∧ (at1000sh7000 0).mayBranch ∧
    (at1000sh7000 0).canEnter 4 ∧ State.canEnter { at1000sh7000 0 with slot := some 0x2000 } 6 :=
  ⟨rfl, ⟨rfl, rfl⟩, canEnter_ram rfl (by decide) (by decide), canEnter_ram rfl (by decide) (by decide)⟩

/-- An unassigned code outside a delay slot, inside one and after an untaken BF/S; an odd `pc`, one at a device register
of either kind and one that hits nothing; no entry of the environment, and one with a request at the mask. -/
theorem witness_UnassignedCodesAndOddAddresses :
    ((at1000 0xFFFF).mode = .programExecution ∧ (at1000 0xFFFF).idleAt (at1000 0xFFFF) ∧
      (at1000 0xFFFF).ordinary (at1000 0xFFFF).pc .word ∧
      decodeWord ((at1000 0xFFFF).byteAt 0x1000 ++ (at1000 0xFFFF).byteAt (0x1000 + 1)) = none ∧
      (at1000 0xFFFF).mayBranch ∧ (at1000 0xFFFF).canEnter 4) ∧
    State.canEnter { at1000 0xFFFF with slot := some 0x2000 } 6 ∧
    (State.slot { at1000 0xFFFF with afterUntaken := true } = none ∧
      State.afterUntaken { at1000 0xFFFF with afterUntaken := true } = true) ∧
    State.idleAt { (at1000 0xFFFF).setSr 0xF0 with inputs := [requesting [.irq 64 15]] } ((at1000 0xFFFF).setSr 0xF0) ∧
    (State.pc { at1000 0xFFFF with pc := 0x1001 }).toNat % 2 = 1 ∧
    State.deviceAt { mapped 0 .sh7600 with pc := 0x5000 } 0x5000 ∧
    State.deviceAt { mapped 0 .sh7600 with pc := 0x51FE } 0x51FE ∧
    State.unmapped { mapped 0 .sh7600 with pc := 0x60FE } 0x60FE .word :=
  ⟨⟨rfl, .inl ⟨rfl, rfl⟩, ordinary_of (by decide), by decide, ⟨rfl, rfl⟩, canEnter_ram rfl (by decide) (by decide)⟩,
    canEnter_ram rfl (by decide) (by decide), ⟨rfl, rfl⟩,
    .inr ⟨_, _, rfl, ⟨rfl, rfl, .inr (.inr ⟨rfl, by decide⟩)⟩, rfl⟩, rfl, .inl (by decide), .inr (by decide),
    unmapped_of (by decide)⟩

/-- LDC.L and LDS.L at Rm, and STC.L and STS.L from just above each region: every kind of access at its edge. -/
theorem witness_ControlAndSystemRegistersInMemory :
    ((based 0x4FFC).ordinary ((based 0x4FFC).reg 1) .long ∧ (based 0x51FC).device ((based 0x51FC).reg 1) .long ∧
      (based 0x4FFE).misaccess ((based 0x4FFE).reg 1) .long ∧ (based 0x6000).unmapped ((based 0x6000).reg 1) .long) ∧
    ((based 0x5000).ordinary ((based 0x5000).reg 1 - 4) .long ∧ (based 0x5200).device ((based 0x5200).reg 1 - 4) .long ∧
      (based 0x5100).misaccess ((based 0x5100).reg 1 - 4) .long ∧
      (based 0x6004).unmapped ((based 0x6004).reg 1 - 4) .long) :=
  ⟨⟨ordinary_of (by decide), device_of (by decide), misaccess_of (by decide), unmapped_of (by decide)⟩,
    ⟨ordinary_of (by decide), device_of (by decide), misaccess_of (by decide), unmapped_of (by decide)⟩⟩

/-- `based 0` with the stack pointer set. -/
def stacked (a : Word) : State := (based 0).setReg 15 a

/-- Both pops in ordinary memory at its end, both in device registers, and a first and a second pop that is an address
error or unmapped. -/
theorem witness_ReturnFromException :
    (based 0).mayBranch ∧ (stacked 0x4FF8).ordinary ((stacked 0x4FF8).reg 15) .long ∧
    (stacked 0x4FF8).ordinary ((stacked 0x4FF8).reg 15 + 4) .long ∧
    (stacked 0x5100).device ((stacked 0x5100).reg 15) .long ∧
    (stacked 0x51F8).device ((stacked 0x51F8).reg 15 + 4) .long ∧
    (stacked 0x4FFE).misaccess ((stacked 0x4FFE).reg 15) .long ∧
    ((stacked 0x4FFC).ordinary ((stacked 0x4FFC).reg 15) .long ∧
      (stacked 0x4FFC).misaccess ((stacked 0x4FFC).reg 15 + 4) .long) ∧
    (stacked 0x6000).unmapped ((stacked 0x6000).reg 15) .long ∧
    ((stacked 0x5FFC).ordinary ((stacked 0x5FFC).reg 15) .long ∧
      (stacked 0x5FFC).unmapped ((stacked 0x5FFC).reg 15 + 4) .long) ∧
    ((stacked 0x70FC).device ((stacked 0x70FC).reg 15) .long ∧
      (stacked 0x70FC).misaccess ((stacked 0x70FC).reg 15 + 4) .long) ∧
    ((stacked 0x72FC).device ((stacked 0x72FC).reg 15) .long ∧
      (stacked 0x72FC).unmapped ((stacked 0x72FC).reg 15 + 4) .long) :=
  ⟨⟨rfl, rfl⟩, ordinary_of (by decide), ordinary_of (by decide), device_of (by decide), device_of (by decide),
    misaccess_of (by decide), ⟨ordinary_of (by decide), misaccess_of (by decide)⟩, unmapped_of (by decide),
    ⟨ordinary_of (by decide), unmapped_of (by decide)⟩, ⟨device_of (by decide), misaccess_of (by decide)⟩,
    ⟨device_of (by decide), unmapped_of (by decide)⟩⟩

/-- The first and the last vector. -/
theorem witness_Trap : (at1000 0).mayBranch ∧ (at1000 0).canEnter 0 ∧ (at1000 0).canEnter 0xFF :=
  ⟨⟨rfl, rfl⟩, canEnter_ram rfl (by decide) (by decide), canEnter_ram rfl (by decide) (by decide)⟩

theorem witness_EntryWithMisalignedStackOrVectorStops :
    ((at1000 0).setReg 15 0x2002).misaccess (((at1000 0).setReg 15 0x2002).reg 15 - 4) .long ∧
    ((at1000 0).setVbr 2).ordinary (((at1000 0).setVbr 2).reg 15 - 4) .long ∧
    ((at1000 0).setVbr 2).ordinary (((at1000 0).setVbr 2).reg 15 - 8) .long ∧
    ((at1000 0).setVbr 2).misaccess (((at1000 0).setVbr 2).vbr + (9#8).zeroExtend 32 * 4) .long :=
  ⟨misaccess_of (by decide), ordinary_of (by decide), ordinary_of (by decide), misaccess_of (by decide)⟩

theorem witness_AddressErrorEntry : (at1000 0).canEnter (at1000 0).params.vecAddrErrCPU :=
  canEnter_ram rfl (by decide) (by decide)

/-- An event may be accepted: at the start; directly after an untaken BF/S where the instruction is a NOP, and where `pc` is
odd, so that there is none. -/
theorem witness_mayAccept :
    (at1000 0).mayAccept ∧ State.mayAccept { at1000 0x0009 with afterUntaken := true } ∧
    State.mayAccept { at1000 0x0009 with afterUntaken := true, pc := 0x1001 } :=
  ⟨⟨rfl, rfl, fun h => by cases h⟩, ⟨rfl, rfl, fun _ _ => ⟨.nop, by decide, rfl, rfl⟩⟩,
    ⟨rfl, rfl, fun _ h => absurd h.1 (by decide)⟩⟩

/-- Beside interrupts, in program execution and in sleep mode. -/
theorem witness_DmaAddressErrorComesFirst :
    (at1000 0).mode = .programExecution ∧ State.mode { at1000 0 with mode := .sleep } = .sleep ∧ (at1000 0).mayAccept ∧
    State.inputs { at1000 0 with inputs := [busy] } = [busy] ∧ busy.reset = none ∧ busy.busRequest = false ∧
    busy.dmaError = true ∧ State.canEnter { at1000 0 with inputs := [busy] } 10 :=
  ⟨rfl, rfl, witness_mayAccept.1, rfl, rfl, rfl, rfl, canEnter_ram rfl (by decide) (by decide)⟩

/-- A level just above the mask in program execution with a lower request before it and one of the same level after it, and
NMI in sleep mode with the mask at 15. -/
theorem witness_InterruptAcceptance :
    (at1000 0).mayAccept ∧
    (requesting [.userBreak 0, .irq 64 1, .irq 65 1]).requests = [.userBreak 0] ++ .irq 64 1 :: [.irq 65 1] ∧
    (∀ q' ∈ [Request.userBreak 0], q'.level < Request.level (.irq 64 1)) ∧
    (∀ q' ∈ [Request.irq 65 1], q'.level ≤ Request.level (.irq 64 1)) ∧
    (at1000 0).sr.i.toNat < Request.level (.irq 64 1) ∧ (at1000 0).canEnter 64 ∧
    (0xF#4).toNat < Request.level .nmi ∧
    State.canEnter { at1000 0 with mode := .sleep, inputs := [requesting [.nmi]] } 11 :=
  ⟨witness_mayAccept.1, rfl, by decide, by decide, by decide, canEnter_ram rfl (by decide) (by decide), by decide,
    canEnter_ram rfl (by decide) (by decide)⟩

/-- After an untaken BF/S an interrupt is accepted before a NOP (45_branch.md R315 (b)); the first of two requests of one level
is; a DMA address error ends sleep mode (60_exceptions.md R435). -/
theorem test_acceptance :
    stepped { scenario 0x0009 with afterUntaken := true, inputs := [requesting [.nmi]] } entered =
      some ⟨0x3300, none, 0x1FF8, 0x1000, 0xF1⟩ ∧
    stepped { ((scenario 0x0009).putValue 0x104 0x3600 .long).setSr 0x31 with
      inputs := [requesting [.irq 64 5, .irq 65 5]] } (fun t => t.pc) = some 0x3400 ∧
    stepped { (scenario 0x0009).putValue 0x28 0x3500 .long with pc := 0x1002, mode := .sleep, inputs := [busy] }
      entered =
      some ⟨0x3500, none, 0x1FF8, 0x1002, 0xF1⟩ := by
  decide +kernel

/-- A request at the mask does not end sleep mode. -/
theorem witness_SleepLastsUntilAnAcceptableEvent :
    (∀ q ∈ (requesting [.irq 64 5]).requests, q.level ≤ (State.sr ((at1000 0).setSr 0x50)).i.toNat) ∧
    (requesting [.irq 64 5]).reset = none ∧ (requesting [.irq 64 5]).busRequest = false ∧
    (requesting [.irq 64 5]).dmaError = false := by
  decide

theorem witness_OnlyNmiOrResetEndsStandby :
    Request.nmi ∉ (requesting [.irq 64 15]).requests ∧ Request.nmi ∈ (requesting [.irq 64 15, .nmi]).requests ∧
    State.quiescent { at1000 0 with mode := .standby } ∧ State.canEnter { at1000 0 with mode := .standby } 11 :=
  ⟨by decide, by decide, ⟨rfl, rfl, rfl⟩, canEnter_ram rfl (by decide) (by decide)⟩

/-- The vector table in ordinary memory, for both kinds of reset; the hypotheses of FirstStepAfterReset too. -/
theorem witness_ResetFromAnyState :
    State.reset.ordinary 0 .long ∧ State.reset.ordinary 4 .long ∧ State.reset.ordinary 8 .long ∧
    State.reset.ordinary 12 .long ∧ State.reset.mode = .reset .powerOn ∧ State.reset.vbr = 0 ∧
    State.reset.inputs = [] ∧ (resetting .manual).ordinary 8 .long ∧ (resetting .manual).ordinary 12 .long :=
  ⟨ordinary_of (by decide), ordinary_of (by decide), ordinary_of (by decide), ordinary_of (by decide), rfl, rfl, rfl,
    ordinary_of (by decide), ordinary_of (by decide)⟩

/-- Another bus master writes two bytes, one of them twice (60_exceptions.md R437). -/
theorem test_busRelease :
    stepped { at1000 0x0009 with inputs := [{ EnvInput.quiet with
        busRequest := true, busWrites := [(0x2000, 1), (0x2001, 2), (0x2000, 3)] }] }
      (fun t => (t.byteAt 0x2000, t.byteAt 0x2001, t.pc, t.mode)) = some (3, 2, 0x1000, .busRelease false) := by
  decide +kernel

/-- The bus asked for and given back, in each mode it can be asked for. -/
theorem witness_BusReleaseIsAPause :
    EnvInput.busRequest { EnvInput.quiet with busRequest := true, busWrites := [(0xFFFFFFFF, 1)] } = true ∧
    EnvInput.quiet.busRequest = false ∧ (at1000 0).mode = .programExecution ∧
    State.mode { at1000 0 with mode := .busRelease true } = .busRelease true := ⟨rfl, rfl, rfl, rfl⟩

end Sys2Proof.Tests
end

section
/-! PROOFS. What a step can do, said once: for a property of states, what the guards of an instruction, the fetch, the
events of a boundary and the whole step have to be shown to give it to the next state. -/

namespace Sys2Proof.Machine

theorem NextHas.mono {P Q : State → Prop} {r : Result} (h : NextHas P r) (hPQ : ∀ t, P t → Q t) : NextHas Q r := by
  cases r with
  | next t => exact hPQ t h
  | fault f => trivial
  | refused f => trivial

/-! ### The guards of an instruction -/

theorem State.illegalCode_has {P : State → Prop} {s : State} (hslot : ∀ d, NextHas P (s.slotIllegal d))
    (hgeneral : NextHas P s.generalIllegal) : NextHas P s.illegalCode := by
  unfold State.illegalCode
  split
  · exact hslot _
  · split
    · trivial
    · exact hgeneral

theorem State.notInSlot_has {P : State → Prop} {s : State} {k : Result} (hslot : ∀ d, NextHas P (s.slotIllegal d))
    (hk : NextHas P k) : NextHas P (s.notInSlot k) := by
  unfold State.notInSlot
  split
  · exact hslot _
  · split
    · trivial
    · exact hk

theorem State.onSH7600_has {P : State → Prop} {s : State} {k : Result} (hillegal : NextHas P s.illegalCode)
    (hk : NextHas P k) : NextHas P (s.onSH7600 k) := by
  unfold State.onSH7600
  split
  · exact hk
  · exact hillegal

/-! ### The boundary and the step -/

theorem State.fetchDecode_has {P : State → Prop} {s : State} {r : Result} (herror : NextHas P s.addressError)
    (hillegal : NextHas P s.illegalCode) (h : s.fetchDecode = .done r) : NextHas P r := by
  unfold State.fetchDecode at h
  split at h
  · cases h
    exact herror
  · cases h
    trivial
  · split at h
    · cases h
    · cases h
      exact hillegal

theorem State.asyncEvent_has {P : State → Prop} {s : State} {e : EnvInput} {r : Result}
    (hdma : NextHas P s.dmaAddressError) (hinterrupt : ∀ q, NextHas P (s.acceptInterrupt q))
    (h : s.asyncEvent e = some r) : NextHas P r := by
  unfold State.asyncEvent at h
  split at h
  · split at h
    · cases h
      exact hdma
    · split at h
      · split at h
        · cases h
          exact hinterrupt _
        · cases h
      · cases h
  · cases h

theorem State.standbyEvent_has {P : State → Prop} {s : State} {e : EnvInput} {r : Result}
    (hnmi : NextHas P (s.acceptInterrupt .nmi)) (h : s.standbyEvent e = some r) : NextHas P r := by
  unfold State.standbyEvent at h
  split at h
  · cases h
    exact hnmi
  · cases h

/-- A step outside program execution: a reset's two fetches, the end of exception processing, an event, the bus given
away or kept or taken back, or nothing at all. -/
theorem State.otherMode_has {P : State → Prop} {s : State} {e : EnvInput} {r : Result}
    (hreset : ∀ kind, s.mode = .reset kind → NextHas P (s.resetFetch kind))
    (hexception : s.mode = .exceptionProcessing → P (s.setMode .programExecution))
    (hidle : s.mode = .sleep ∨ s.mode = .standby → P s)
    (hrelease : s.mode = .sleep → P (s.releaseBus e true))
    (hevent : s.mode = .sleep → ∀ r, s.asyncEvent e = some r → NextHas P r)
    (hnmi : s.mode = .standby → NextHas P (s.acceptInterrupt .nmi))
    (hkept : ∀ asleep, s.mode = .busRelease asleep → P (s.busWrite e.busWrites))
    (hback : ∀ asleep, s.mode = .busRelease asleep →
      P (s.setMode (if asleep then .sleep else .programExecution)))
    (h : s.otherMode e = some r) : NextHas P r := by
  unfold State.otherMode at h
  cases hm : s.mode with
  | programExecution => simp [hm] at h
  | reset kind =>
    simp only [hm, Option.some.injEq] at h
    subst h
    exact hreset kind hm
  | exceptionProcessing =>
    simp only [hm, Option.some.injEq] at h
    subst h
    exact hexception hm
  | sleep =>
    simp only [hm, Option.some.injEq] at h
    subst h
    split
    · exact hrelease hm
    · cases ha : s.asyncEvent e with
      | none => exact hidle (.inl hm)
      | some r => exact hevent hm r ha
  | standby =>
    simp only [hm, Option.some.injEq] at h
    subst h
    cases ha : s.standbyEvent e with
    | none => exact hidle (.inr hm)
    | some r => exact State.standbyEvent_has (hnmi hm) ha
  | busRelease asleep =>
    simp only [hm, Option.some.injEq] at h
    subst h
    rw [NextHas_next]
    split
    · exact hkept asleep hm
    · exact hback asleep hm

/-- Only program execution goes on to the boundary of an instruction. -/
theorem State.mode_of_otherMode_none {s : State} {e : EnvInput} (h : s.otherMode e = none) :
    s.mode = .programExecution := by
  unfold State.otherMode at h
  split at h
  · assumption
  all_goals cases h

/-- A step, from the state `u` with the environment's entry `e` consumed: a reset, a step outside program execution, the
bus given away, an event, a fetch decided without an instruction, or the instruction at `pc`. -/
theorem step_has {P : State → Prop} {s u : State} {e : EnvInput} (hu : s.takeInput = (e, u))
    (hreset : ∀ kind, e.reset = some kind → NextHas P (u.resetSequence kind))
    (hother : ∀ r, u.otherMode e = some r → NextHas P r)
    (hrelease : u.mode = .programExecution → P (u.releaseBus e false))
    (hevent : u.mode = .programExecution → ∀ r, u.asyncEvent e = some r → NextHas P r)
    (hfetch : u.mode = .programExecution → ∀ r, u.fetchDecode = .done r → NextHas P r)
    (hexec : u.mode = .programExecution → ∀ i, u.fetchDecode = .instr i → NextHas P (exec i u)) :
    NextHas P (step s) := by
  simp only [step, State.boundary, hu]
  cases hr : e.reset with
  | some kind => exact hreset kind hr
  | none =>
    cases ho : u.otherMode e with
    | some r => exact hother r ho
    | none =>
      have hm := State.mode_of_otherMode_none ho
      simp only [State.programBoundary]
      by_cases hb : e.busRequest = true
      · simpa [hb] using hrelease hm
      · simp only [hb]
        cases ha : u.asyncEvent e with
        | some r =>
          by_cases hd : u.nextDisputed = true
          · simp [hd]
          · simpa [hd] using hevent hm r ha
        | none =>
          cases hf : u.fetchDecode with
          | done r => simpa [hf] using hfetch hm r hf
          | instr i => simpa [hf] using hexec hm i hf

end Sys2Proof.Machine
end

section
/-! PROOFS. What the chip fixes (00_scope.md R7) no instruction, no exception and no event changes. -/

namespace Sys2Proof.Machine

/-- The next state, if there is one, has the parameters `p`. -/
abbrev KeepsParams (p : Params) (r : Result) : Prop := NextHas (fun t => t.params = p) r

section
variable {p : Params} {s : State}

/-! ### Exceptions and resets -/

theorem State.enterException_keepsParams (h : s.params = p) (v : BitVec 8) (spc : Word) (mask : Option (BitVec 4)) :
    KeepsParams p (s.enterException v spc mask) := by
  refine (State.enterException_keeps s v spc mask).mono fun t ht => ?_
  obtain ⟨-, -, -, -, -, -, -, -, -, -, -, hparams, -⟩ := ht
  exact hparams.trans h

theorem State.addressError_keepsParams (h : s.params = p) : KeepsParams p s.addressError :=
  State.enterException_keepsParams (s := s.setDraws (s.draws + 1)) h _ _ _

theorem State.illegalCode_keepsParams (h : s.params = p) : KeepsParams p s.illegalCode :=
  State.illegalCode_has (fun _ => State.enterException_keepsParams h _ _ _) (State.enterException_keepsParams h _ _ _)

theorem State.resetFetch_keepsParams (h : s.params = p) (kind : ResetKind) : KeepsParams p (s.resetFetch kind) :=
  State.entryLoad_has fun _ _ => State.entryLoad_has fun _ _ => h

/-! ### What instructions are made of -/

theorem State.done_keepsParams (h : s.params = p) : KeepsParams p s.done := h

theorem State.doneInhibit_keepsParams (h : s.params = p) : KeepsParams p s.doneInhibit := h

theorem State.notInSlot_keepsParams {k : Result} (h : s.params = p) (hk : KeepsParams p k) :
    KeepsParams p (s.notInSlot k) :=
  State.notInSlot_has (fun _ => State.enterException_keepsParams h _ _ _) hk

theorem State.onSH7600_keepsParams {k : Result} (h : s.params = p) (hk : KeepsParams p k) :
    KeepsParams p (s.onSH7600 k) :=
  State.onSH7600_has (State.illegalCode_keepsParams h) hk

theorem State.load_keepsParams {a : Word} {sz : Size} {k : Word → State → Result} (h : s.params = p)
    (hk : ∀ v s', s'.params = p → KeepsParams p (k v s')) : KeepsParams p (s.load a sz k) :=
  State.load_has (fun v d => hk v (s.setDraws d) h) (State.addressError_keepsParams h)

theorem State.store_keepsParams {a v : Word} {sz : Size} {k : State → Result} (h : s.params = p)
    (hk : ∀ s', s'.params = p → KeepsParams p (k s')) : KeepsParams p (s.store a sz v k) :=
  State.store_has (hk _ ((s.putValue_params a v sz).trans h)) (hk _ h) (State.addressError_keepsParams h)

theorem State.loadTo_keepsParams (h : s.params = p) (ea : Word) (sz : Size) (n : Reg) :
    KeepsParams p (s.loadTo ea sz n) :=
  State.load_keepsParams h fun _ _ h' => h'

theorem State.storeFrom_keepsParams (h : s.params = p) (m : Reg) (ea : Word) (sz : Size) :
    KeepsParams p (s.storeFrom m ea sz) :=
  State.store_keepsParams h fun _ h' => h'

theorem State.storePreDec_keepsParams (h : s.params = p) (m n : Reg) (sz : Size) :
    KeepsParams p (s.storePreDec m n sz) :=
  State.store_keepsParams h fun _ h' => h'

theorem State.loadPostInc_keepsParams (h : s.params = p) (m n : Reg) (sz : Size) :
    KeepsParams p (s.loadPostInc m n sz) :=
  State.load_keepsParams h fun v s' h' => by
    split
    · exact h'
    · exact h'

theorem State.modifyByte_keepsParams (h : s.params = p) (f : Byte → Byte) : KeepsParams p (s.modifyByte f) :=
  State.load_keepsParams h fun _ _ h1 => State.store_keepsParams h1 fun _ h2 => h2

theorem State.loadControl_keepsParams {put : State → Word → State} (h : s.params = p) (m : Reg)
    (hput : ∀ s v, (put s v).params = s.params) : KeepsParams p (s.loadControl m put) :=
  State.load_keepsParams h fun v s' h' => (hput s' v).trans h'

theorem State.storeControl_keepsParams (h : s.params = p) (n : Reg) (v : Word) :
    KeepsParams p (s.storeControl n v) :=
  State.store_keepsParams (s := s.setReg n _) h fun _ h' => h'

theorem State.macOperands_keepsParams {k : Word → Word → State → Result} (h : s.params = p) (m n : Reg) (sz : Size)
    (hk : ∀ x y s', s'.params = p → KeepsParams p (k x y s')) : KeepsParams p (s.macOperands m n sz k) :=
  State.load_keepsParams h fun x s1 h1 =>
    State.load_keepsParams (s := s1.setReg n _) h1 fun y s3 h3 => hk x y (s3.setReg m _) h3

theorem State.pop_keepsParams {k : Word → State → Result} (h : s.params = p)
    (hk : ∀ v s', s'.params = p → KeepsParams p (k v s')) : KeepsParams p (s.pop k) :=
  State.load_keepsParams h fun v s' h' => hk v (s'.setReg Reg.sp _) h'

theorem State.returnFromException_keepsParams (h : s.params = p) : KeepsParams p s.returnFromException :=
  State.pop_keepsParams h fun _ _ h1 => State.pop_keepsParams h1 fun _ _ h2 => h2

end

@[simp] theorem State.macWordSum_params (s : State) (x y : BitVec 16) : (s.macWordSum x y).params = s.params := by
  simp only [State.macWordSum]
  split
  · split <;> simp
  · split <;> simp

@[simp] theorem State.busWrite_params (s : State) (ws : List (Word × Byte)) : (s.busWrite ws).params = s.params := by
  rw [State.busWrite_eq]

theorem State.takeInput_params (s : State) : s.takeInput.2.params = s.params := by
  unfold State.takeInput
  split <;> rfl

/-! ### Instructions, by the form of their meaning -/

theorem exec_keepsParams (i : Instr) (s : State) : KeepsParams s.params (exec i s) := by
  cases i with
  -- an effect on registers and flags, then the next instruction
  | movReg | movImm | mova | movt | swapB | swapW | xtrct | add | addImm | addc | addv | cmpEqImm | cmpEq | cmpHs
      | cmpGe | cmpHi | cmpGt | cmpPl | cmpPz | cmpStr | div0s | div0u | div1 | extsB | extsW | extuB | extuW | neg | negc
      | sub | subc | subv | mulsW | muluW | andReg | andImm | notReg | orReg | orImm | tstReg | tstImm | xorReg | xorImm
      | rotl | rotr | rotcl | rotcr | shal | shar | shll | shlr | shll2 | shll8 | shll16 | shlr2 | shlr8 | shlr16
      | clrt | clrmac | nop | sett => exact State.done_keepsParams rfl
  | dt | dmulsL | dmuluL | mulL => exact State.onSH7600_keepsParams rfl (State.done_keepsParams rfl)
  | sleep => exact State.setMode_params s.advance _
  -- loads and stores
  | movBLoad | movWLoad | movLLoad | movBLoadIdx | movWLoadIdx | movLLoadIdx | movWLoadPc | movLLoadPc | movBLoadGbr
      | movWLoadGbr | movLLoadGbr | movBLoadDisp | movWLoadDisp | movLLoadDisp =>
    exact State.loadTo_keepsParams rfl _ _ _
  | movBStore | movWStore | movLStore | movBStoreIdx | movWStoreIdx | movLStoreIdx | movBStoreGbr | movWStoreGbr
      | movLStoreGbr | movBStoreDisp | movWStoreDisp | movLStoreDisp => exact State.storeFrom_keepsParams rfl _ _ _
  | movBStoreDec | movWStoreDec | movLStoreDec => exact State.storePreDec_keepsParams rfl _ _ _
  | movBLoadInc | movWLoadInc | movLLoadInc => exact State.loadPostInc_keepsParams rfl _ _ _
  | andMem imm => exact State.modifyByte_keepsParams rfl fun b => b &&& imm
  | orMem imm => exact State.modifyByte_keepsParams rfl fun b => b ||| imm
  | xorMem imm => exact State.modifyByte_keepsParams rfl fun b => b ^^^ imm
  | tas =>
    exact State.load_keepsParams rfl fun _ s' h1 =>
      State.store_keepsParams (s := s'.setT _) h1 fun _ h2 => State.done_keepsParams h2
  | tstMem => exact State.load_keepsParams rfl fun _ s' h => State.done_keepsParams (s := s'.setT _) h
  | macL =>
    exact State.onSH7600_keepsParams rfl
      (State.macOperands_keepsParams rfl _ _ _ fun _ _ s' h => State.done_keepsParams (s := s'.setMac _) h)
  | macW =>
    exact State.macOperands_keepsParams rfl _ _ _ fun _ _ s' h =>
      State.done_keepsParams ((s'.macWordSum_params _ _).trans h)
  -- branches, and the instructions that may not stand in a delay slot
  | bf | bt =>
    refine State.notInSlot_keepsParams rfl ?_
    split <;> rfl
  | bfS | btS =>
    refine State.onSH7600_keepsParams rfl (State.notInSlot_keepsParams rfl ?_)
    split <;> rfl
  | bra | bsr | jmp | jsr | rts => exact State.notInSlot_keepsParams rfl rfl
  | braf | bsrf => exact State.onSH7600_keepsParams rfl (State.notInSlot_keepsParams rfl rfl)
  | rte => exact State.notInSlot_keepsParams rfl (State.returnFromException_keepsParams rfl)
  | trapa => exact State.notInSlot_keepsParams rfl (State.enterException_keepsParams rfl _ _ _)
  -- control and system registers
  | ldcSr | ldcGbr | ldcVbr | ldsMach | ldsMacl | ldsPr | stcSr | stcGbr | stcVbr | stsMach | stsMacl | stsPr =>
    exact State.doneInhibit_keepsParams rfl
  | ldcLSr | ldcLGbr | ldcLVbr | ldsLMach | ldsLMacl | ldsLPr =>
    exact State.loadControl_keepsParams rfl _ fun _ _ => rfl
  | stcLSr | stcLGbr | stcLVbr | stsLMach | stsLMacl | stsLPr => exact State.storeControl_keepsParams rfl _ _

/-! ### The boundary and the step -/

theorem State.asyncEvent_keepsParams {s : State} {e : EnvInput} {r : Result} (h : s.asyncEvent e = some r) :
    KeepsParams s.params r :=
  State.asyncEvent_has (State.enterException_keepsParams rfl _ _ _)
    (fun _ => State.enterException_keepsParams rfl _ _ _) h

theorem State.otherMode_keepsParams {s : State} {e : EnvInput} {r : Result} (h : s.otherMode e = some r) :
    KeepsParams s.params r :=
  State.otherMode_has
    (hreset := fun kind _ => State.resetFetch_keepsParams rfl kind)
    (hexception := fun _ => rfl)
    (hidle := fun _ => rfl)
    (hrelease := fun _ => s.busWrite_params _)
    (hevent := fun _ _ => State.asyncEvent_keepsParams)
    (hnmi := fun _ => State.enterException_keepsParams rfl _ _ _)
    (hkept := fun _ _ => s.busWrite_params _)
    (hback := fun _ _ => rfl) h

theorem step_keepsParams (s : State) : KeepsParams s.params (step s) := by
  rw [← s.takeInput_params]
  exact step_has rfl
    (hreset := fun kind _ => State.resetFetch_keepsParams (s := s.takeInput.2.resetRegisters) rfl kind)
    (hother := fun _ => State.otherMode_keepsParams)
    (hrelease := fun _ => State.busWrite_params _ _)
    (hevent := fun _ _ => State.asyncEvent_keepsParams)
    (hfetch := fun _ _ => State.fetchDecode_has (State.addressError_keepsParams rfl) (State.illegalCode_keepsParams rfl))
    (hexec := fun _ i _ => exec_keepsParams i _)

/-- Settles O7: the property that every outcome of a step keeps, read at a next state. -/
theorem noStepChangesTheParameters : Obligations.NoStepChangesTheParameters := by
  intro s t h
  have hkeeps := step_keepsParams s
  rwa [h] at hkeeps

end Sys2Proof.Machine
end

section
/-! PROOFS. What an instruction may change, said once: the fields of the state that it is listed to write, the canonical
form of memory and of MACH, and how it leaves the sequencing state. Every statement below about what instructions write
and what they keep is read off `exec_completes`. -/

namespace Sys2Proof.Machine

/-! ### The fields with listed writers -/

/-- The parts of SR and the registers whose writers 10_state.md R27-R34 list. -/
inductive SystemField where
  | srS
  | srI
  | srM
  | srQ
  | srT
  | gbr
  | vbr
  | pr
  | mach
  | macl

/-- The field holds the same in two states. -/
def SystemField.Same (s t : State) : SystemField → Prop
  | .srS => t.sr.s = s.sr.s
  | .srI => t.sr.i = s.sr.i
  | .srM => t.sr.m = s.sr.m
  | .srQ => t.sr.q = s.sr.q
  | .srT => t.sr.t = s.sr.t
  | .gbr => t.gbr = s.gbr
  | .vbr => t.vbr = s.vbr
  | .pr => t.pr = s.pr
  | .mach => t.mach = s.mach
  | .macl => t.macl = s.macl

/-- The writers of each field (10_state.md R27-R34). -/
def writes (i : Instr) : SystemField → Bool
  | .srS | .srI => match i with
    | .ldcSr _ | .ldcLSr _ | .rte => true
    | _ => false
  | .srM => match i with
    | .ldcSr _ | .ldcLSr _ | .rte | .div0s _ _ | .div0u => true
    | _ => false
  | .srQ => match i with
    | .ldcSr _ | .ldcLSr _ | .rte | .div0s _ _ | .div0u | .div1 _ _ => true
    | _ => false
  | .srT => match i with
    | .addc _ _ | .addv _ _ | .cmpEqImm _ | .cmpEq _ _ | .cmpHs _ _ | .cmpGe _ _ | .cmpHi _ _ | .cmpGt _ _ | .cmpPl _
    | .cmpPz _ | .cmpStr _ _ | .div0s _ _ | .div0u | .div1 _ _ | .dt _ | .negc _ _ | .subc _ _ | .subv _ _ | .tas _
    | .tstReg _ _ | .tstImm _ | .tstMem _ | .rotl _ | .rotr _ | .rotcl _ | .rotcr _ | .shal _ | .shar _ | .shll _
    | .shlr _ | .clrt | .sett | .ldcSr _ | .ldcLSr _ | .rte => true
    | _ => false
  | .gbr => match i with
    | .ldcGbr _ | .ldcLGbr _ => true
    | _ => false
  | .vbr => match i with
    | .ldcVbr _ | .ldcLVbr _ => true
    | _ => false
  | .pr => match i with
    | .bsr _ | .bsrf _ | .jsr _ | .ldsPr _ | .ldsLPr _ => true
    | _ => false
  | .mach => match i with
    | .clrmac | .ldsMach _ | .ldsLMach _ | .macW _ _ | .macL _ _ | .dmulsL _ _ | .dmuluL _ _ => true
    | _ => false
  | .macl => match i with
    | .clrmac | .ldsMacl _ | .ldsLMacl _ | .macW _ _ | .macL _ _ | .dmulsL _ _ | .dmuluL _ _ | .mulL _ _ | .mulsW _ _
    | .muluW _ _ => true
    | _ => false

/-! ### The effect of an instruction and its completion -/

/-- Among the fields with listed writers at most those of `w` differ; memory and MACH keep their canonical forms. -/
structure WritesOnly (w : SystemField → Bool) (s u : State) : Prop where
  others : ∀ f, w f = false → f.Same s u
  memory : Memory.wf s.mem = true → Memory.wf u.mem = true
  machHeld : s.machHeld → u.machHeld

/-- What an instruction has done before it ends: control is still at it. -/
structure Effect (w : SystemField → Bool) (s u : State) : Prop extends WritesOnly w s u where
  pc : u.pc = s.pc
  mode : u.mode = s.mode

/-- What an instruction that ended, by itself or in an exception, leaves: a pending branch only before the next address,
held off by itself alone, and another mode only with nothing half done. -/
structure Completion (w : SystemField → Bool) (s t : State) : Prop extends WritesOnly w s t where
  slot : t.slot ≠ none → t.pc = s.pc + 2 ∧ t.inhibit = false ∧ t.afterUntaken = false
  untaken : t.afterUntaken = true → t.inhibit = false
  mode : t.mode = s.mode ∨ t.quiescent

/-- The outcome, where it is a next state, completes an instruction begun in `s`. -/
abbrev Completes (w : SystemField → Bool) (s : State) (r : Result) : Prop := NextHas (Completion w s) r

theorem SystemField.Same.trans {s u v : State} {f : SystemField} (h : f.Same s u) (h' : f.Same u v) : f.Same s v := by
  cases f <;> exact Eq.trans h' h

theorem WritesOnly.trans {w : SystemField → Bool} {s u v : State} (h : WritesOnly w s u) (h' : WritesOnly w u v) :
    WritesOnly w s v :=
  ⟨fun f hf => (h.others f hf).trans (h'.others f hf), h'.memory ∘ h.memory, h'.machHeld ∘ h.machHeld⟩

theorem Effect.trans {w : SystemField → Bool} {s u v : State} (h : Effect w s u) (h' : Effect w u v) : Effect w s v :=
  ⟨h.toWritesOnly.trans h'.toWritesOnly, h'.pc.trans h.pc, h'.mode.trans h.mode⟩

/-- On the SH7000 MACH is written in the form in which it is held (10_state.md R33). -/
theorem machForm_held {ser : Series} (h : ser = .sh7000) (v : Word) :
    machForm ser v = signExtend10 (machForm ser v) := by
  subst h
  have hlow : ((v.extractLsb' 0 10).signExtend 32).extractLsb' 0 10 = v.extractLsb' 0 10 := by
    ext k hk
    simp [BitVec.getElem_signExtend, show k < 32 by omega, hk]
  simp only [machForm, signExtend10, hlow]

section
variable {w : SystemField → Bool} {s u : State}

/-! ### The updates of the state -/

theorem Effect.refl (w : SystemField → Bool) (s : State) : Effect w s s :=
  ⟨⟨fun f _ => by cases f <;> rfl, id, id⟩, rfl, rfl⟩

theorem Effect.setReg (h : Effect w s u) (n : Reg) (v : Word) : Effect w s (u.setReg n v) :=
  h.trans ⟨⟨fun f _ => by cases f <;> rfl, id, id⟩, rfl, rfl⟩

theorem Effect.setDraws (h : Effect w s u) (d : Nat) : Effect w s (u.setDraws d) :=
  h.trans ⟨⟨fun f _ => by cases f <;> rfl, id, id⟩, rfl, rfl⟩

theorem Effect.deviceWrite (h : Effect w s u) (a v : Word) (sz : Size) : Effect w s (u.deviceWrite a v sz) :=
  h.trans ⟨⟨fun f _ => by cases f <;> rfl, id, id⟩, rfl, rfl⟩

theorem Effect.putValue (h : Effect w s u) (a v : Word) (sz : Size) : Effect w s (u.putValue a v sz) :=
  h.trans ⟨⟨fun f _ => by cases f <;> simp [SystemField.Same], u.wf_putValue a v sz, by simp [State.machHeld]⟩,
    by simp, by simp⟩

theorem Effect.setMQT (h : Effect w s u) (hm : w .srM = true) (hq : w .srQ = true) (ht : w .srT = true) (m q t : Bool) :
    Effect w s (u.setMQT m q t) := by
  refine h.trans ⟨⟨fun f hf => ?_, id, id⟩, rfl, rfl⟩
  cases f with
  | srM => simp [hm] at hf
  | srQ => simp [hq] at hf
  | srT => simp [ht] at hf
  | _ => rfl

theorem Effect.setQT (h : Effect w s u) (hq : w .srQ = true) (ht : w .srT = true) (q t : Bool) :
    Effect w s (u.setQT q t) := by
  refine h.trans ⟨⟨fun f hf => ?_, id, id⟩, rfl, rfl⟩
  cases f with
  | srQ => simp [hq] at hf
  | srT => simp [ht] at hf
  | _ => rfl

theorem Effect.setT (h : Effect w s u) (ht : w .srT = true) (t : Bool) : Effect w s (u.setT t) := by
  refine h.trans ⟨⟨fun f hf => ?_, id, id⟩, rfl, rfl⟩
  cases f with
  | srT => simp [ht] at hf
  | _ => rfl

theorem Effect.setSr (h : Effect w s u) (hs : w .srS = true) (hi : w .srI = true) (hm : w .srM = true)
    (hq : w .srQ = true) (ht : w .srT = true) (v : Word) : Effect w s (u.setSr v) := by
  refine h.trans ⟨⟨fun f hf => ?_, id, id⟩, rfl, rfl⟩
  cases f with
  | srS => simp [hs] at hf
  | srI => simp [hi] at hf
  | srM => simp [hm] at hf
  | srQ => simp [hq] at hf
  | srT => simp [ht] at hf
  | _ => rfl

theorem Effect.setGbr (h : Effect w s u) (hw : w .gbr = true) (v : Word) : Effect w s (u.setGbr v) := by
  refine h.trans ⟨⟨fun f hf => ?_, id, id⟩, rfl, rfl⟩
  cases f with
  | gbr => simp [hw] at hf
  | _ => rfl

theorem Effect.setVbr (h : Effect w s u) (hw : w .vbr = true) (v : Word) : Effect w s (u.setVbr v) := by
  refine h.trans ⟨⟨fun f hf => ?_, id, id⟩, rfl, rfl⟩
  cases f with
  | vbr => simp [hw] at hf
  | _ => rfl

theorem Effect.setPr (h : Effect w s u) (hw : w .pr = true) (v : Word) : Effect w s (u.setPr v) := by
  refine h.trans ⟨⟨fun f hf => ?_, id, id⟩, rfl, rfl⟩
  cases f with
  | pr => simp [hw] at hf
  | _ => rfl

theorem Effect.setMacl (h : Effect w s u) (hw : w .macl = true) (v : Word) : Effect w s (u.setMacl v) := by
  refine h.trans ⟨⟨fun f hf => ?_, id, id⟩, rfl, rfl⟩
  cases f with
  | macl => simp [hw] at hf
  | _ => rfl

theorem Effect.setMach (h : Effect w s u) (hw : w .mach = true) (v : Word) : Effect w s (u.setMach v) := by
  refine h.trans ⟨⟨fun f hf => ?_, id, fun _ hser => machForm_held hser v⟩, rfl, rfl⟩
  cases f with
  | mach => simp [hw] at hf
  | _ => rfl

theorem Effect.setMac (h : Effect w s u) (hh : w .mach = true) (hl : w .macl = true) (v : BitVec 64) :
    Effect w s (u.setMac v) :=
  (h.setMach hh _).setMacl hl _

theorem Effect.macWordSum (h : Effect w s u) (hh : w .mach = true) (hl : w .macl = true) (x y : BitVec 16) :
    Effect w s (u.macWordSum x y) := by
  simp only [State.macWordSum]
  split
  · split
    · exact (h.setMacl hl _).setMach hh _
    · exact h.setMacl hl _
  · split
    · exact h.setMac hh hl _
    · exact (h.setMach hh _).setMacl hl _

/-! ### The ends of an instruction -/

theorem Effect.done (h : Effect w s u) : Completes w s u.done :=
  ⟨h.toWritesOnly.trans ⟨fun f _ => by cases f <;> rfl, id, id⟩, fun hne => absurd rfl hne, fun _ => rfl, .inl h.mode⟩

theorem Effect.doneInhibit (h : Effect w s u) : Completes w s u.doneInhibit :=
  ⟨h.toWritesOnly.trans ⟨fun f _ => by cases f <;> rfl, id, id⟩, fun hne => absurd rfl hne, fun h => (nomatch h),
    .inl h.mode⟩

theorem Effect.advanceUntaken (h : Effect w s u) : Completion w s u.advanceUntaken :=
  ⟨h.toWritesOnly.trans ⟨fun f _ => by cases f <;> rfl, id, id⟩, fun hne => absurd rfl hne, fun _ => rfl, .inl h.mode⟩

theorem Effect.branch (h : Effect w s u) (a : Word) : Completion w s (u.branch a) :=
  ⟨h.toWritesOnly.trans ⟨fun f _ => by cases f <;> rfl, id, id⟩, fun hne => absurd rfl hne, fun _ => rfl, .inl h.mode⟩

theorem Effect.delayedBranch (h : Effect w s u) (a : Word) : Completion w s (u.delayedBranch a) :=
  ⟨h.toWritesOnly.trans ⟨fun f _ => by cases f <;> rfl, id, id⟩, fun _ => ⟨congrArg (· + 2) h.pc, rfl, rfl⟩,
    fun _ => rfl, .inl h.mode⟩

theorem Effect.sleep (h : Effect w s u) (mode : Mode) : Completion w s (u.advance.setMode mode) :=
  ⟨h.toWritesOnly.trans ⟨fun f _ => by cases f <;> rfl, id, id⟩, fun hne => absurd rfl hne, fun _ => rfl,
    .inr ⟨rfl, rfl, rfl⟩⟩

/-- An exception that is no interrupt leaves every field with listed writers alone (60_exceptions.md R404). -/
theorem Effect.enterException (h : Effect w s u) (v : BitVec 8) (spc : Word) :
    Completes w s (u.enterException v spc none) := by
  refine (u.enterException_keeps v spc none).mono fun t ht => ?_
  obtain ⟨hslot, hinhibit, huntaken, -, -, hsr, hgbr, hvbr, hmach, hmacl, hpr, hparams, -, -, hmem⟩ := ht
  have hwrites : WritesOnly w u t := by
    refine ⟨fun f _ => ?_, hmem, fun hu hser => ?_⟩
    · cases f <;> simp [SystemField.Same, hsr, hgbr, hvbr, hmach, hmacl, hpr]
    · rw [hmach]
      exact hu (hparams ▸ hser)
  exact ⟨h.toWritesOnly.trans hwrites, fun hne => absurd hslot hne, fun _ => hinhibit,
    .inr ⟨hslot, hinhibit, huntaken⟩⟩

theorem Effect.addressError (h : Effect w s u) : Completes w s u.addressError :=
  (h.setDraws _).enterException _ _

theorem Effect.illegalCode (h : Effect w s u) : Completes w s u.illegalCode :=
  State.illegalCode_has (fun _ => h.enterException _ _) (h.enterException _ _)

/-! ### What instructions are made of -/

theorem Effect.notInSlot {k : Result} (h : Effect w s u) (hk : Completes w s k) : Completes w s (u.notInSlot k) :=
  State.notInSlot_has (fun _ => h.enterException _ _) hk

theorem Effect.onSH7600 {k : Result} (h : Effect w s u) (hk : Completes w s k) : Completes w s (u.onSH7600 k) :=
  State.onSH7600_has h.illegalCode hk

theorem Effect.load {a : Word} {sz : Size} {k : Word → State → Result} (h : Effect w s u)
    (hk : ∀ v u', Effect w s u' → Completes w s (k v u')) : Completes w s (u.load a sz k) :=
  State.load_has (fun v d => hk v _ (h.setDraws d)) h.addressError

theorem Effect.store {a v : Word} {sz : Size} {k : State → Result} (h : Effect w s u)
    (hk : ∀ u', Effect w s u' → Completes w s (k u')) : Completes w s (u.store a sz v k) :=
  State.store_has (hk _ (h.putValue a v sz)) (hk _ (h.deviceWrite a v sz)) h.addressError

theorem Effect.loadTo (h : Effect w s u) (ea : Word) (sz : Size) (n : Reg) : Completes w s (u.loadTo ea sz n) :=
  h.load fun _ _ h' => (h'.setReg _ _).done

theorem Effect.storeFrom (h : Effect w s u) (m : Reg) (ea : Word) (sz : Size) :
    Completes w s (u.storeFrom m ea sz) :=
  h.store fun _ h' => h'.done

theorem Effect.storePreDec (h : Effect w s u) (m n : Reg) (sz : Size) : Completes w s (u.storePreDec m n sz) :=
  h.store fun _ h' => (h'.setReg _ _).done

theorem Effect.loadPostInc (h : Effect w s u) (m n : Reg) (sz : Size) : Completes w s (u.loadPostInc m n sz) :=
  h.load fun _ _ h' => by
    split
    · exact (h'.setReg _ _).done
    · exact ((h'.setReg _ _).setReg _ _).done

theorem Effect.modifyByte (h : Effect w s u) (f : Byte → Byte) : Completes w s (u.modifyByte f) :=
  h.load fun _ _ h1 => h1.store fun _ h2 => h2.done

theorem Effect.loadControl {put : State → Word → State} (h : Effect w s u) (m : Reg)
    (hput : ∀ u' v, Effect w s u' → Effect w s (put u' v)) : Completes w s (u.loadControl m put) :=
  h.load fun v u' h' => ((hput u' v h').setReg _ _).doneInhibit

theorem Effect.storeControl (h : Effect w s u) (n : Reg) (v : Word) : Completes w s (u.storeControl n v) :=
  (h.setReg _ _).store fun _ h' => h'.doneInhibit

theorem Effect.macOperands {k : Word → Word → State → Result} (h : Effect w s u) (m n : Reg) (sz : Size)
    (hk : ∀ x y u', Effect w s u' → Completes w s (k x y u')) : Completes w s (u.macOperands m n sz k) :=
  h.load fun x _ h1 => (h1.setReg _ _).load fun y _ h3 => hk x y _ (h3.setReg _ _)

theorem Effect.pop {k : Word → State → Result} (h : Effect w s u)
    (hk : ∀ v u', Effect w s u' → Completes w s (k v u')) : Completes w s (u.pop k) :=
  h.load fun v _ h' => hk v _ (h'.setReg _ _)

theorem Effect.returnFromException (h : Effect w s u) (hs : w .srS = true) (hi : w .srI = true) (hm : w .srM = true)
    (hq : w .srQ = true) (ht : w .srT = true) : Completes w s u.returnFromException :=
  h.pop fun _ _ h1 => h1.pop fun v _ h2 => (h2.setSr hs hi hm hq ht v).delayedBranch _

end

/-! ### Every instruction, by the form of its meaning -/

/-- Of the fields with listed writers an instruction changes those alone of which it is one; it keeps memory and MACH
in their canonical forms; and it ends with control passed on, by itself or in an exception. -/
theorem exec_completes (i : Instr) (s : State) : Completes (writes i) s (exec i s) := by
  have h := Effect.refl (writes i) s
  cases i with
  -- an effect on registers and flags, then the next instruction
  | nop => exact h.done
  | movReg | movImm | mova | movt | swapB | swapW | xtrct | add | addImm | extsB | extsW | extuB | extuW | neg | sub
      | andReg | andImm | notReg | orReg | orImm | xorReg | xorImm | shll2 | shll8 | shll16 | shlr2 | shlr8 | shlr16 =>
    exact (h.setReg _ _).done
  | cmpEqImm | cmpEq | cmpHs | cmpGe | cmpHi | cmpGt | cmpPl | cmpPz | cmpStr | tstReg | tstImm | clrt | sett =>
    exact (h.setT rfl _).done
  | addc | addv | negc | subc | subv | rotl | rotr | rotcl | rotcr | shal | shar | shll | shlr =>
    exact ((h.setReg _ _).setT rfl _).done
  | div0s | div0u => exact (h.setMQT rfl rfl rfl _ _ _).done
  | div1 => exact (((h.setReg _ _).setReg _ _).setQT rfl rfl _ _).done
  | mulsW | muluW => exact (h.setMacl rfl _).done
  | clrmac => exact ((h.setMach rfl _).setMacl rfl _).done
  | dt => exact h.onSH7600 ((h.setReg _ _).setT rfl _).done
  | mulL => exact h.onSH7600 (h.setMacl rfl _).done
  | dmulsL | dmuluL => exact h.onSH7600 (h.setMac rfl rfl _).done
  | sleep => exact h.sleep _
  -- loads and stores
  | movBLoad | movWLoad | movLLoad | movBLoadIdx | movWLoadIdx | movLLoadIdx | movWLoadPc | movLLoadPc | movBLoadGbr
      | movWLoadGbr | movLLoadGbr | movBLoadDisp | movWLoadDisp | movLLoadDisp => exact h.loadTo _ _ _
  | movBStore | movWStore | movLStore | movBStoreIdx | movWStoreIdx | movLStoreIdx | movBStoreGbr | movWStoreGbr
      | movLStoreGbr | movBStoreDisp | movWStoreDisp | movLStoreDisp => exact h.storeFrom _ _ _
  | movBStoreDec | movWStoreDec | movLStoreDec => exact h.storePreDec _ _ _
  | movBLoadInc | movWLoadInc | movLLoadInc => exact h.loadPostInc _ _ _
  | andMem imm => exact h.modifyByte fun b => b &&& imm
  | orMem imm => exact h.modifyByte fun b => b ||| imm
  | xorMem imm => exact h.modifyByte fun b => b ^^^ imm
  | tas => exact h.load fun _ _ h1 => (h1.setT rfl _).store fun _ h2 => h2.done
  | tstMem => exact h.load fun _ _ h1 => (h1.setT rfl _).done
  | macL => exact h.onSH7600 (h.macOperands _ _ _ fun _ _ _ h' => (h'.setMac rfl rfl _).done)
  | macW => exact h.macOperands _ _ _ fun _ _ _ h' => (h'.macWordSum rfl rfl _ _).done
  -- branches, and the instructions that may not stand in a delay slot
  | bf =>
    refine h.notInSlot ?_
    split
    · exact h.done
    · exact h.branch _
  | bt =>
    refine h.notInSlot ?_
    split
    · exact h.branch _
    · exact h.done
  | bfS =>
    refine h.onSH7600 (h.notInSlot ?_)
    split
    · exact h.advanceUntaken
    · exact h.delayedBranch _
  | btS =>
    refine h.onSH7600 (h.notInSlot ?_)
    split
    · exact h.delayedBranch _
    · exact h.advanceUntaken
  | bra | jmp | rts => exact h.notInSlot (h.delayedBranch _)
  | bsr | jsr => exact h.notInSlot ((h.setPr rfl _).delayedBranch _)
  | braf => exact h.onSH7600 (h.notInSlot (h.delayedBranch _))
  | bsrf => exact h.onSH7600 (h.notInSlot ((h.setPr rfl _).delayedBranch _))
  | rte => exact h.notInSlot (h.returnFromException rfl rfl rfl rfl rfl)
  | trapa => exact h.notInSlot (h.enterException _ _)
  -- control and system registers
  | ldcSr => exact (h.setSr rfl rfl rfl rfl rfl _).doneInhibit
  | ldcGbr => exact (h.setGbr rfl _).doneInhibit
  | ldcVbr => exact (h.setVbr rfl _).doneInhibit
  | ldsMach => exact (h.setMach rfl _).doneInhibit
  | ldsMacl => exact (h.setMacl rfl _).doneInhibit
  | ldsPr => exact (h.setPr rfl _).doneInhibit
  | ldcLSr => exact h.loadControl _ fun _ v h' => h'.setSr rfl rfl rfl rfl rfl v
  | ldcLGbr => exact h.loadControl _ fun _ v h' => h'.setGbr rfl v
  | ldcLVbr => exact h.loadControl _ fun _ v h' => h'.setVbr rfl v
  | ldsLMach => exact h.loadControl _ fun _ v h' => h'.setMach rfl v
  | ldsLMacl => exact h.loadControl _ fun _ v h' => h'.setMacl rfl v
  | ldsLPr => exact h.loadControl _ fun _ v h' => h'.setPr rfl v
  | stcSr | stcGbr | stcVbr | stsMach | stsMacl | stsPr => exact (h.setReg _ _).doneInhibit
  | stcLSr | stcLGbr | stcLVbr | stsLMach | stsLMacl | stsLPr => exact h.storeControl _ _

theorem exec_completion {i : Instr} {s t : State} (h : exec i s = .next t) : Completion (writes i) s t := by
  have hc := exec_completes i s
  rwa [h] at hc

end Sys2Proof.Machine
end

section
/-! PROOFS. The writers of the fields of SR and of GBR, VBR, PR, MACH and MACL (10_state.md R27-R34). -/

namespace Sys2Proof.Machine

/-- A field that an instruction changed has that instruction among its writers. -/
theorem writes_of_changed {i : Instr} {s t : State} {f : SystemField} (h : exec i s = .next t) (hf : ¬ f.Same s t) :
    writes i f = true :=
  Bool.eq_true_of_not_eq_false fun hw => hf ((exec_completion h).others f hw)

/-- The interrupt mask has the writers of S. -/
theorem writes_srS {i : Instr} (h : writes i .srS = true) : ∃ m, i = .ldcSr m ∨ i = .ldcLSr m ∨ i = .rte := by
  cases i with
  | ldcSr | ldcLSr | rte => simp
  | _ => cases h

theorem writes_srM {i : Instr} (h : writes i .srM = true) :
    ∃ m n, i = .ldcSr m ∨ i = .ldcLSr m ∨ i = .rte ∨ i = .div0s m n ∨ i = .div0u := by
  cases i with
  | ldcSr | ldcLSr | rte | div0s | div0u => simp
  | _ => cases h

theorem writes_srQ {i : Instr} (h : writes i .srQ = true) :
    ∃ m n, i = .ldcSr m ∨ i = .ldcLSr m ∨ i = .rte ∨ i = .div0s m n ∨ i = .div0u ∨ i = .div1 m n := by
  cases i with
  | ldcSr | ldcLSr | rte | div0s | div0u | div1 => simp
  | _ => cases h

theorem writes_srT {i : Instr} (h : writes i .srT = true) : ∃ m n imm, i = .addc m n ∨ i = .addv m n ∨
    i = .cmpEqImm imm ∨ i = .cmpEq m n ∨ i = .cmpHs m n ∨ i = .cmpGe m n ∨ i = .cmpHi m n ∨ i = .cmpGt m n ∨
    i = .cmpPl n ∨ i = .cmpPz n ∨ i = .cmpStr m n ∨ i = .div0s m n ∨ i = .div0u ∨ i = .div1 m n ∨ i = .dt n ∨
    i = .negc m n ∨ i = .subc m n ∨ i = .subv m n ∨ i = .tas n ∨ i = .tstReg m n ∨ i = .tstImm imm ∨ i = .tstMem imm ∨
    i = .rotl n ∨ i = .rotr n ∨ i = .rotcl n ∨ i = .rotcr n ∨ i = .shal n ∨ i = .shar n ∨ i = .shll n ∨ i = .shlr n ∨
    i = .clrt ∨ i = .sett ∨ i = .ldcSr m ∨ i = .ldcLSr m ∨ i = .rte := by
  cases i with
  | addc m n | addv m n | cmpEq m n | cmpHs m n | cmpGe m n | cmpHi m n | cmpGt m n | cmpStr m n | div0s m n | div1 m n
      | negc m n | subc m n | subv m n | tstReg m n => exact ⟨m, n, 0, by simp⟩
  | cmpPl n | cmpPz n | dt n | tas n | rotl n | rotr n | rotcl n | rotcr n | shal n | shar n | shll n | shlr n =>
    exact ⟨0, n, 0, by simp⟩
  | ldcSr m | ldcLSr m => exact ⟨m, 0, 0, by simp⟩
  | cmpEqImm imm | tstImm imm | tstMem imm => exact ⟨0, 0, imm, by simp⟩
  | div0u | clrt | sett | rte => exact ⟨0, 0, 0, by simp⟩
  | _ => cases h

theorem writes_gbr {i : Instr} (h : writes i .gbr = true) : ∃ m, i = .ldcGbr m ∨ i = .ldcLGbr m := by
  cases i with
  | ldcGbr | ldcLGbr => simp
  | _ => cases h

theorem writes_vbr {i : Instr} (h : writes i .vbr = true) : ∃ m, i = .ldcVbr m ∨ i = .ldcLVbr m := by
  cases i with
  | ldcVbr | ldcLVbr => simp
  | _ => cases h

theorem writes_pr {i : Instr} (h : writes i .pr = true) :
    ∃ m d, i = .bsr d ∨ i = .bsrf m ∨ i = .jsr m ∨ i = .ldsPr m ∨ i = .ldsLPr m := by
  cases i with
  | bsr | bsrf | jsr | ldsPr | ldsLPr => simp
  | _ => cases h

theorem writes_mach {i : Instr} (h : writes i .mach = true) : ∃ m n, i = .clrmac ∨ i = .ldsMach m ∨ i = .ldsLMach m ∨
    i = .macW m n ∨ i = .macL m n ∨ i = .dmulsL m n ∨ i = .dmuluL m n := by
  cases i with
  | clrmac | ldsMach | ldsLMach | macW | macL | dmulsL | dmuluL => simp
  | _ => cases h

theorem writes_macl {i : Instr} (h : writes i .macl = true) : ∃ m n, i = .clrmac ∨ i = .ldsMacl m ∨ i = .ldsLMacl m ∨
    i = .macW m n ∨ i = .macL m n ∨ i = .dmulsL m n ∨ i = .dmuluL m n ∨ i = .mulL m n ∨ i = .mulsW m n ∨
    i = .muluW m n := by
  cases i with
  | clrmac | ldsMacl | ldsLMacl | macW | macL | dmulsL | dmuluL | mulL | mulsW | muluW => simp
  | _ => cases h

/-- Settles O9: of GBR, VBR and PR each that changed has the instruction among its writers. -/
theorem onlyListedInstructionsWriteGbrVbrPr : Obligations.OnlyListedInstructionsWriteGbrVbrPr := fun _ _ _ h =>
  ⟨fun hne => writes_gbr (writes_of_changed h hne), fun hne => writes_vbr (writes_of_changed h hne),
    fun hne => writes_pr (writes_of_changed h hne)⟩

/-- Settles O10: of MACH and MACL each that changed has the instruction among its writers. -/
theorem onlyListedInstructionsWriteTheAccumulator : Obligations.OnlyListedInstructionsWriteTheAccumulator :=
  fun _ _ _ h => ⟨fun hne => writes_mach (writes_of_changed h hne), fun hne => writes_macl (writes_of_changed h hne)⟩

/-- Settles O11: of the parts of SR each that changed has the instruction among its writers. -/
theorem onlyListedInstructionsWriteSr : Obligations.OnlyListedInstructionsWriteSr := fun _ _ _ h =>
  ⟨fun hne => writes_srS (hne.elim (writes_of_changed (f := .srS) h) (writes_of_changed (f := .srI) h)),
    fun hne => writes_srM (writes_of_changed h hne), fun hne => writes_srQ (writes_of_changed h hne),
    fun hne => writes_srT (writes_of_changed h hne)⟩

end Sys2Proof.Machine
end

section
/-! PROOFS. The invariant holds after reset and every step keeps it. -/

namespace Sys2Proof.Machine

/-! ### Ways to meet the invariant -/

theorem State.Inv.of_quiescent {t : State} (hmem : Memory.wf t.mem = true) (hmach : t.machHeld) (hq : t.quiescent) :
    t.Inv :=
  ⟨hmem, hmach, fun hne => absurd hq.1 hne, fun _ => hq.2.1, fun _ => hq⟩

/-- The mode may change from one in which nothing is half done, and to one that lets a program run. -/
theorem State.Inv.setMode {s : State} (h : s.Inv) {mode : Mode}
    (hm : mode.running = false → s.mode.running = false) : (s.setMode mode).Inv :=
  ⟨h.memory, h.mach, h.slot, h.untaken, fun hr => h.halted (hm hr)⟩

theorem State.Inv.busWrite {s : State} (h : s.Inv) (ws : List (Word × Byte)) : (s.busWrite ws).Inv := by
  have hmem := s.wf_busWrite ws h.memory
  rw [State.busWrite_eq]
  exact ⟨hmem, h.mach, h.slot, h.untaken, h.halted⟩

theorem State.Inv.takeInput {s : State} (h : s.Inv) : s.takeInput.2.Inv := by
  unfold State.takeInput
  split
  · exact h
  · exact ⟨h.memory, h.mach, h.slot, h.untaken, h.halted⟩

/-! ### Exceptions and resets -/

section
variable {s : State}

theorem State.enterException_inv (hmem : Memory.wf s.mem = true) (hmach : s.machHeld) (v : BitVec 8) (spc : Word)
    (mask : Option (BitVec 4)) : NextHas State.Inv (s.enterException v spc mask) := by
  refine (s.enterException_keeps v spc mask).mono fun t ht => ?_
  obtain ⟨hslot, hinhibit, huntaken, -, -, -, -, -, hm, -, -, hparams, -, -, hwf⟩ := ht
  refine .of_quiescent (hwf hmem) (fun hser => ?_) ⟨hslot, hinhibit, huntaken⟩
  rw [hm]
  exact hmach (hparams ▸ hser)

theorem State.Inv.exception (h : s.Inv) (v : BitVec 8) (spc : Word) (mask : Option (BitVec 4)) :
    NextHas State.Inv (s.enterException v spc mask) :=
  State.enterException_inv h.memory h.mach v spc mask

theorem State.Inv.addressError (h : s.Inv) : NextHas State.Inv s.addressError :=
  State.enterException_inv (s := s.setDraws (s.draws + 1)) h.memory h.mach _ _ _

theorem State.Inv.illegalCode (h : s.Inv) : NextHas State.Inv s.illegalCode :=
  State.illegalCode_has (fun _ => h.exception _ _ _) (h.exception _ _ _)

theorem State.resetFetch_inv (hmem : Memory.wf s.mem = true) (hmach : s.machHeld) (kind : ResetKind) :
    NextHas State.Inv (s.resetFetch kind) :=
  State.entryLoad_has fun _ _ => State.entryLoad_has fun _ _ => .of_quiescent hmem hmach ⟨rfl, rfl, rfl⟩

theorem State.resetRegisters_mach (s : State) :
    s.resetRegisters.mach = machForm s.params.series (Config.undefinedWord (s.draws + 18)) := rfl

theorem State.resetRegisters_mem (s : State) : s.resetRegisters.mem = s.mem := rfl

theorem State.resetRegisters_machHeld (s : State) : s.resetRegisters.machHeld := fun hser => by
  rw [State.resetRegisters_mach]
  exact machForm_held hser _

theorem State.Inv.resetSequence (h : s.Inv) (kind : ResetKind) : NextHas State.Inv (s.resetSequence kind) := by
  have hmem : Memory.wf s.resetRegisters.mem = true := by
    rw [State.resetRegisters_mem]
    exact h.memory
  have hmach := s.resetRegisters_machHeld
  unfold State.resetSequence
  exact State.resetFetch_inv hmem hmach kind

theorem State.Inv.asyncEvent {e : EnvInput} {r : Result} (h : s.Inv) (hr : s.asyncEvent e = some r) :
    NextHas State.Inv r :=
  State.asyncEvent_has (h.exception _ _ _) (fun _ => h.exception _ _ _) hr

/-! ### A step outside program execution -/

theorem State.Inv.otherMode {e : EnvInput} {r : Result} (h : s.Inv) (hr : s.otherMode e = some r) :
    NextHas State.Inv r :=
  State.otherMode_has
    (hreset := fun kind _ => State.resetFetch_inv h.memory h.mach kind)
    (hexception := fun _ => h.setMode fun hrun => nomatch hrun)
    (hidle := fun _ => h)
    (hrelease := fun hm => (h.busWrite _).setMode fun _ => by rw [State.busWrite_eq]; simp only [hm]; rfl)
    (hevent := fun _ _ => h.asyncEvent)
    (hnmi := fun _ => h.exception _ _ _)
    (hkept := fun _ _ => h.busWrite _)
    (hback := fun asleep hm => h.setMode fun hrun => by
      cases asleep with
      | true => rw [hm]; rfl
      | false => cases hrun) hr

/-! ### A step of program execution -/

/-- An instruction is run only from an even address (20_memory.md R67). -/
theorem State.pc_even_of_fetched {i : Instr} (h : s.fetchDecode = .instr i) : s.pc.getLsbD 0 = false := by
  have haligned : Size.word.aligned s.pc = true := by
    by_contra hodd
    simp [State.fetchDecode, State.instrFetch, hodd] at h
  have heven : s.pc.toNat % 2 = 0 := by simpa [Size.aligned, Size.bytes] using haligned
  simp [BitVec.getLsbD, Nat.testBit_zero, heven]

theorem getLsbD_zero_add_two {a : Word} (h : a.getLsbD 0 = false) : (a + 2).getLsbD 0 = false := by
  simp [BitVec.getLsbD, Nat.testBit_zero] at h ⊢
  omega

/-- An instruction keeps the invariant: a branch it leaves pending stands before the address after its own. -/
theorem State.Inv.exec (h : s.Inv) (hm : s.mode = .programExecution) {i : Instr} (hi : s.fetchDecode = .instr i) :
    NextHas State.Inv (exec i s) := by
  refine (exec_completes i s).mono fun t ht => ⟨ht.memory h.memory, ht.machHeld h.mach, fun hne => ?_, ht.untaken,
    fun hrun => ?_⟩
  · obtain ⟨hpc, hheld⟩ := ht.slot hne
    exact ⟨hpc ▸ getLsbD_zero_add_two (State.pc_even_of_fetched hi), hheld⟩
  · rcases ht.mode with hsame | hq
    · rw [hsame, hm] at hrun
      cases hrun
    · exact hq

end

/-! ### The step -/

theorem State.Inv.step {s : State} (h : s.Inv) : NextHas State.Inv (step s) :=
  step_has rfl
    (hreset := fun kind _ => h.takeInput.resetSequence kind)
    (hother := fun _ => h.takeInput.otherMode)
    (hrelease := fun _ => (h.takeInput.busWrite _).setMode fun hrun => nomatch hrun)
    (hevent := fun _ _ => h.takeInput.asyncEvent)
    (hfetch := fun _ _ => State.fetchDecode_has h.takeInput.addressError h.takeInput.illegalCode)
    (hexec := fun hm _ => h.takeInput.exec hm)

/-- Settles O5: the invariant of the next state, read off the outcome of a step. -/
theorem everyStepKeepsInvariant : Obligations.EveryStepKeepsInvariant := by
  intro s t h hstep
  have hnext := h.step
  rwa [hstep] at hnext

/-- Settles O4: right after reset nothing is half done, no byte is listed, and the series is the SH7600. -/
theorem resetStateHoldsInvariant : Obligations.ResetStateHoldsInvariant :=
  .of_quiescent rfl (fun hser => nomatch hser) ⟨rfl, rfl, rfl⟩

end Sys2Proof.Machine
end

section
/-! PROOFS. The layout of SR as a longword (10_state.md R24, R25). -/

namespace Sys2Proof.Machine

/-- SR as a longword, bit by bit. -/
theorem StatusReg.getLsbD_toWord (f : StatusReg) (k : Nat) : f.toWord.getLsbD k =
    if k = 0 then f.t else if k = 1 then f.s else if k < 4 then false else if k < 8 then f.i.getLsbD (k - 4)
    else if k = 8 then f.q else if k = 9 then f.m else false := by
  simp only [StatusReg.toWord, BitVec.zeroExtend, BitVec.getLsbD_setWidth, BitVec.getLsbD_append, BitVec.getLsbD_ofBool,
    BitVec.getLsbD_zero]
  by_cases hk : k < 10
  · interval_cases k <;> simp
  · grind

theorem StatusReg.toWord_eq_fields (f : StatusReg) : f.toWord = (bitWord f.m <<< 9) ||| (bitWord f.q <<< 8) |||
    (f.i.zeroExtend 32 <<< 4) ||| (bitWord f.s <<< 1) ||| bitWord f.t := by
  refine BitVec.eq_of_getLsbD_eq fun k hk => ?_
  rw [f.getLsbD_toWord]
  interval_cases k <;> simp [bitWord]

theorem StatusReg.toWord_ofWord (v : Word) : (StatusReg.ofWord v).toWord = v &&& 0x3F3 := by
  refine BitVec.eq_of_getLsbD_eq fun k hk => ?_
  rw [StatusReg.getLsbD_toWord]
  interval_cases k <;> simp [StatusReg.ofWord]

theorem StatusReg.ofWord_toWord (f : StatusReg) : StatusReg.ofWord f.toWord = f := by
  have hi : f.toWord.extractLsb' 4 4 = f.i := by
    refine BitVec.eq_of_getLsbD_eq fun k hk => ?_
    rw [BitVec.getLsbD_extractLsb', f.getLsbD_toWord]
    interval_cases k <;> simp
  simp [StatusReg.ofWord, -BitVec.getLsbD_eq_getElem, f.getLsbD_toWord, hi]

/-- Settles O12: each of its three parts is a lemma above, read off the bits of SR. -/
theorem statusRegisterLayout : Obligations.StatusRegisterLayout :=
  ⟨StatusReg.toWord_eq_fields, StatusReg.toWord_ofWord, StatusReg.ofWord_toWord⟩

end Sys2Proof.Machine
end

section
/-! PROOFS. Memory reads as last written (20_memory.md R62, R72). -/

namespace Sys2Proof.Machine

theorem State.ordinary.putValue {s : State} {a : Word} {sz : Size} (h : s.ordinary a sz) (b v : Word) (sz' : Size) :
    (s.putValue b v sz').ordinary a sz :=
  ⟨h.1, (s.putValue_region b v sz' a).trans h.2⟩

theorem State.memRead_putValue {s : State} {a : Word} {sz : Size} (h : s.ordinary a sz) (v : Word) :
    (s.putValue a v sz).memRead a sz = .ok (sz.cut v, s.putValue a v sz) := by
  rw [State.memRead_ordinary (h.putValue a v sz), State.valueAt_putValue]

/-- Settles O13: an ordinary write puts the value's bytes in memory, and the laws of that update are the three parts. -/
theorem readAfterWrite : Obligations.ReadAfterWrite := by
  intro s a v sz t ha hwrite
  obtain rfl : s.putValue a v sz = t := by simpa [State.memWrite_ordinary ha] using hwrite
  exact ⟨State.memRead_putValue ha v, s.byteAt_putValue_outside a v sz, s.bytes_putValue a v sz⟩

end Sys2Proof.Machine
end

section
/-! PROOFS. Taking an exception with its stack and vector in ordinary memory (60_exceptions.md R404). -/

namespace Sys2Proof.Machine

/-! ### Longwords after a write -/

theorem State.longAt_putValue_self (s : State) (a v : Word) : (s.putValue a v .long).longAt a = v :=
  s.valueAt_putValue a v .long

theorem State.longAt_putValue_disjoint (s : State) {a b : Word} (v : Word)
    (h : ∀ x ∈ Size.long.span b, x ∉ Size.long.span a) : (s.putValue a v .long).longAt b = s.longAt b := by
  have hbyte : ∀ x ∈ Size.long.span b, (s.putValue a v .long).byteAt x = s.byteAt x := fun x hx =>
    s.byteAt_putValue_outside a v .long x (h x hx)
  have hlast : b + 2 + 1 = b + 3 := by bv_omega
  simp only [Size.span, List.forall_mem_cons] at hbyte
  obtain ⟨h0, h1, h2, h3, -⟩ := hbyte
  simp only [State.longAt, State.wordAt, hlast, h0, h1, h2, h3]

/-- The longword pushed first is not touched by the second push. -/
theorem span_push_disjoint (a : Word) : ∀ x ∈ Size.long.span (a - 4), x ∉ Size.long.span (a - 8) := by
  intro x hx hx'
  simp only [Size.span, List.mem_cons, List.not_mem_nil, or_false] at hx hx'
  bv_omega

/-! ### The frame of an entry -/

theorem Frame.setMask {s t : State} {regs : List Reg} {bytes : List Word} (h : Frame s t regs bytes)
    (mask : Option (BitVec 4)) : Frame s (t.setMask mask) regs bytes := by
  cases mask with
  | none => exact h
  | some level =>
    exact ⟨h.regs, h.gbr, h.vbr, h.mach, h.macl, h.pr, h.mode, h.memory, h.params, h.inputs, h.sby, h.deviceWrites,
      h.draws⟩

theorem Frame.enterHandler {s t : State} {regs : List Reg} {bytes : List Word} (h : Frame s t regs bytes)
    (handler : Word) : Frame { s with mode := .programExecution } (t.enterHandler handler) regs bytes :=
  ⟨h.regs, h.gbr, h.vbr, h.mach, h.macl, h.pr, rfl, h.memory, h.params, h.inputs, h.sby, h.deviceWrites, h.draws⟩

/-! ### The entry -/

/-- The end of an entry leaves memory. -/
theorem State.longAt_enterHandler_setMask (s : State) (mask : Option (BitVec 4)) (handler a : Word) :
    ((s.setMask mask).enterHandler handler).longAt a = s.longAt a :=
  State.longAt_congr (State.setMask_byteAt s mask) a

/-- The state with SR and `spc` pushed. -/
def State.pushSrPc (s : State) (spc : Word) : State :=
  (((s.setReg Reg.sp (s.reg Reg.sp - 4)).putValue (s.reg Reg.sp - 4) s.sr.toWord .long).setReg Reg.sp
    (s.reg Reg.sp - 8)).putValue (s.reg Reg.sp - 8) spc .long

theorem State.enterException_eq {s : State} {v : BitVec 8} (spc : Word) (mask : Option (BitVec 4))
    (h : s.canEnter v) : s.enterException v spc mask =
      .next (((s.pushSrPc spc).setMask mask).enterHandler ((s.pushSrPc spc).longAt (s.vectorAddress v))) :=
  State.enterException_ordinary spc mask h

theorem State.pushSrPc_sp (s : State) (spc : Word) : (s.pushSrPc spc).reg Reg.sp = s.reg Reg.sp - 8 := by
  simp [State.pushSrPc]

theorem State.pushSrPc_sr (s : State) (spc : Word) : (s.pushSrPc spc).sr = s.sr := by
  simp [State.pushSrPc]

theorem State.longAt_pushSrPc_spc (s : State) (spc : Word) : (s.pushSrPc spc).longAt (s.reg Reg.sp - 8) = spc :=
  State.longAt_putValue_self _ _ _

theorem State.longAt_pushSrPc_sr (s : State) (spc : Word) :
    (s.pushSrPc spc).longAt (s.reg Reg.sp - 4) = s.sr.toWord :=
  (State.longAt_putValue_disjoint _ _ (span_push_disjoint _)).trans (State.longAt_putValue_self _ _ _)

theorem State.pushSrPc_frame (s : State) (spc : Word) : Frame s (s.pushSrPc spc) [Reg.sp]
    (Size.long.span (s.reg Reg.sp - 4) ++ Size.long.span (s.reg Reg.sp - 8)) := by
  have hfirst : Frame s _ [Reg.sp] (Size.long.span (s.reg Reg.sp - 4) ++ Size.long.span (s.reg Reg.sp - 8)) :=
    ((Frame.refl s _ _).setReg (List.mem_singleton_self _) (s.reg Reg.sp - 4)).putValue
      (fun _ => List.mem_append_left _) s.sr.toWord
  exact (hfirst.setReg (List.mem_singleton_self _) _).putValue (fun _ => List.mem_append_right _) _

/-- Taking an exception where its accesses are ordinary: everything R404 says of the next state. -/
theorem State.enterException_entered {s : State} {v : BitVec 8} (spc : Word) (mask : Option (BitVec 4))
    (h : s.canEnter v) : ∃ t, s.enterException v spc mask = .next t ∧ Entered s t v spc (mask.getD s.sr.i) := by
  refine ⟨_, State.enterException_eq spc mask h, ?_⟩
  exact {
    sp := (State.setMask_reg _ mask Reg.sp).trans (s.pushSrPc_sp spc)
    savedSr := (State.longAt_enterHandler_setMask _ mask _ _).trans (s.longAt_pushSrPc_sr spc)
    savedPc := (State.longAt_enterHandler_setMask _ mask _ _).trans (s.longAt_pushSrPc_spc spc)
    pc := (State.longAt_enterHandler_setMask _ mask _ _).symm
    sr := by rw [State.enterHandler_sr, State.setMask_sr, s.pushSrPc_sr spc]
    slot := rfl
    inhibit := rfl
    afterUntaken := rfl
    frame := ((s.pushSrPc_frame spc).setMask mask).enterHandler _ }

end Sys2Proof.Machine
end

section
/-! PROOFS. What a step fetches where no event comes first: an unassigned code, or an address from which there is no fetch
(20_memory.md R67, R75, 30_encoding.md R121). -/

namespace Sys2Proof.Machine

/-! ### The fetch -/

theorem State.instrFetch_ordinary {s : State} {a : Word} (h : s.ordinary a .word) : s.instrFetch a = .ok (s.wordAt a) := by
  simp [State.instrFetch, (Size.aligned_iff .word a).2 h.1, h.2]

theorem State.instrFetch_unmapped {s : State} {a : Word} (h : s.unmapped a .word) : s.instrFetch a = .unmapped := by
  simp [State.instrFetch, (Size.aligned_iff .word a).2 h.1, h.2]

theorem State.instrFetch_addressError {s : State} {a : Word} (h : a.toNat % 2 = 1 ∨ s.deviceAt a) :
    s.instrFetch a = .addressError := by
  unfold State.instrFetch
  rcases h with hodd | hregion | hregion
  · simp [Size.aligned, Size.bytes, hodd]
  · simp [hregion]
  · simp [hregion]

theorem State.fetchDecode_unassigned {s : State} (h : s.ordinary s.pc .word) (hcode : decodeWord (s.wordAt s.pc) = none) :
    s.fetchDecode = .done s.illegalCode := by
  simp only [State.fetchDecode, State.instrFetch_ordinary h, hcode]

theorem State.fetchDecode_addressError {s : State} (h : s.pc.toNat % 2 = 1 ∨ s.deviceAt s.pc) :
    s.fetchDecode = .done s.addressError := by
  simp only [State.fetchDecode, State.instrFetch_addressError h]

theorem State.fetchDecode_unmapped {s : State} (h : s.unmapped s.pc .word) :
    s.fetchDecode = .done (.fault .unmappedAccess) := by
  simp only [State.fetchDecode, State.instrFetch_unmapped h]

/-! ### An illegal code (60_exceptions.md R406) -/

theorem State.illegalCode_entersGeneral {s : State} (hslot : s.slot = none) (huntaken : s.afterUntaken = false)
    (h : s.canEnter s.params.vecIllegal) :
    ∃ t, s.illegalCode = .next t ∧ Entered s t s.params.vecIllegal s.pc s.sr.i := by
  simpa [State.illegalCode, State.generalIllegal, hslot, huntaken] using State.enterException_entered s.pc none h

theorem State.illegalCode_entersSlot {s : State} {d : Word} (hslot : s.slot = some d)
    (h : s.canEnter s.params.vecSlotIllegal) :
    ∃ t, s.illegalCode = .next t ∧ Entered s t s.params.vecSlotIllegal d s.sr.i := by
  simpa [State.illegalCode, State.slotIllegal, hslot] using State.enterException_entered d none h

theorem State.illegalCode_refused {s : State} (hslot : s.slot = none) (huntaken : s.afterUntaken = true) :
    s.illegalCode = .refused .disputedAfterUntaken := by
  simp [State.illegalCode, hslot, huntaken]

/-! ### The step -/

/-- Consuming the environment's entry changes what the environment has presented and nothing else. -/
theorem State.idleAt_eq {s u : State} (h : s.idleAt u) : u = { s with inputs := u.inputs, sby := u.sby } := by
  rcases h with ⟨-, rfl⟩ | ⟨e, rest, -, -, rfl⟩ <;> rfl

/-- A step that only fetches, from the state in which it does. -/
theorem step_of_idleAt {s u : State} {r : Result} (hm : s.mode = .programExecution) (hu : s.idleAt u)
    (hf : u.fetchDecode = .done r) : step s = r :=
  step_of_fetched_done (State.boundary_of_idleAt hm hu) hf

/-- Settles O40: the step is what the fetch gives in the state with the environment's entry consumed, which differs from
the state before in nothing that the fetch or the exception reads. -/
theorem unassignedCodesAndOddAddresses : Obligations.UnassignedCodesAndOddAddresses := by
  intro s u hm hu
  have hstep : ∀ {r}, u.fetchDecode = .done r → step s = r := step_of_idleAt hm hu
  have hsame := State.idleAt_eq hu
  generalize u.inputs = inputs, u.sby = sby at hsame
  clear hu
  subst hsame
  refine ⟨fun hpc hcode => ?_, fun hpc => hstep (State.fetchDecode_addressError hpc),
    fun hpc => hstep (State.fetchDecode_unmapped hpc)⟩
  rw [hstep (State.fetchDecode_unassigned hpc hcode)]
  exact ⟨fun hslot huntaken hs => State.illegalCode_entersGeneral hslot huntaken ⟨hs.savedSr, hs.savedPc, hs.vector⟩,
    fun hslot huntaken => State.illegalCode_refused hslot huntaken,
    fun d hslot hs => State.illegalCode_entersSlot hslot ⟨hs.savedSr, hs.savedPc, hs.vector⟩⟩

end Sys2Proof.Machine
end

section
/-! PROOFS. The decoder and the encoder are inverse to each other (30_encoding.md R100-R123). -/

namespace Sys2Proof

/-! ### Decoding a code the encoder builds -/

theorem decode_of_decodeWord {w : Code} {i : Instr} (h : decodeWord w = some i) (rest : List Byte) :
    decode (w.extractLsb' 8 8 :: w.extractLsb' 0 8 :: rest) = .ok (i, rest) := by
  simp only [decode, bytes_of_code, h]

/-- Where the decoder makes an 8-bit field of bits 7-0, it reads the field from which the encoder took them. -/
theorem decodeWord_field8 {a b : Nibble} (v : BitVec 8) {f : BitVec 8 → Instr}
    (h : ∀ c d, decodeNibbles a b c d = some (f (field8 c d))) :
    decodeWord (ofNibbles a b (hiNibble v) (loNibble v)) = some (f v) := by
  rw [decodeWord_ofNibbles, h, field8_nibbles]

/-- The same beside a register in bits 11-8. -/
theorem decodeWord_field8_reg {a : Nibble} (v : BitVec 8) (n : Reg) {f : BitVec 8 → Reg → Instr}
    (h : ∀ b c d, decodeNibbles a b c d = some (f (field8 c d) b)) :
    decodeWord (ofNibbles a n (hiNibble v) (loNibble v)) = some (f v n) :=
  decodeWord_field8 v (f := (f · n)) (h n)

/-- Where the decoder makes a 12-bit field of bits 11-0, it reads the field from which the encoder took them. -/
theorem decodeWord_field12 {a : Nibble} (v : BitVec 12) {f : BitVec 12 → Instr}
    (h : ∀ b c d, decodeNibbles a b c d = some (f (field12 b c d))) :
    decodeWord (ofNibbles a (nibble12 2 v) (nibble12 1 v) (nibble12 0 v)) = some (f v) := by
  rw [decodeWord_ofNibbles, h, field12_nibbles]

/-- Where no field is wider than a nibble, the decoder reads the operands as they stand. -/
theorem decodeWord_encode (i : Instr) : decodeWord (encode i) = some i := by
  cases i with
  | movImm v n | movWLoadPc v n | movLLoadPc v n | addImm v n => exact decodeWord_field8_reg v n fun _ _ _ => rfl
  | movBLoadGbr v | movWLoadGbr v | movLLoadGbr v | movBStoreGbr v | movWStoreGbr v | movLStoreGbr v | mova v
      | cmpEqImm v | andImm v | andMem v | orImm v | orMem v | tstImm v | tstMem v | xorImm v | xorMem v | bf v | bfS v
      | bt v | btS v | trapa v =>
    exact decodeWord_field8 v fun _ _ => rfl
  | bra v | bsr v => exact decodeWord_field12 v fun _ _ _ => rfl
  | _ => exact decodeWord_ofNibbles _ _ _ _

/-- Settles O1: the two bytes make the code again, and the code decodes to its instruction. -/
theorem decodeOfEncodeIsTheInstruction : Obligations.DecodeOfEncodeIsTheInstruction := fun i rest =>
  decode_of_decodeWord (decodeWord_encode i) rest

/-- Settles O3: the printed bytes are the encodings of the instructions they are printed for, and the group of H'FFFF
is empty. -/
theorem printedCodesDecode : Obligations.PrintedCodesDecode :=
  have decodes : ∀ i : Instr, decode (encodeBytes i) = .ok (i, []) := fun i => decodeOfEncodeIsTheInstruction i []
  ⟨decodes (.movReg 0 1), decodes (.addImm 0xFE 3), decodes (.dmuluL 0 1), decodes (.macW 0 1),
    decodes (.andMem 0x80), decodes (.rotcr 0), decodes (.bra 1), decodes (.trapa 0x20), by decide⟩

/-! ### Encoding what a code decodes to

Group by group of the opcode map: the nibbles that choose the instruction are split into their values, and for each
value the code of the instruction chosen is read off `encode`. -/

/-- The sixteen values of a nibble, one for each place in the opcode map. -/
theorem Nibble.cases {P : Nibble → Prop} (x0 : P 0x0) (x1 : P 0x1) (x2 : P 0x2) (x3 : P 0x3) (x4 : P 0x4)
    (x5 : P 0x5) (x6 : P 0x6) (x7 : P 0x7) (x8 : P 0x8) (x9 : P 0x9) (xA : P 0xA) (xB : P 0xB) (xC : P 0xC)
    (xD : P 0xD) (xE : P 0xE) (xF : P 0xF) (d : Nibble) : P d := by
  obtain ⟨k⟩ := d
  fin_cases k <;> assumption

section
variable {a b c d : Nibble} {i : Instr}

/-- Bits 3-0 choose the row; where they do not choose the instruction, bits 7-4 do, and bits 11-8 are a register or must
be 0. -/
theorem encode_of_decode0 (h : decode0 b c d = some i) : encode i = ofNibbles 0x0 b c d := by
  cases d using Nibble.cases with
  | x2 | x3 | xA => cases c using Nibble.cases <;> cases h <;> rfl
  | x8 | xB =>
    obtain ⟨rfl, h⟩ := Option.ite_none_right_eq_some.1 h
    cases c using Nibble.cases <;> cases h <;> rfl
  | x9 =>
    cases c using Nibble.cases with
    | x0 | x1 =>
      obtain ⟨rfl, h⟩ := Option.ite_none_right_eq_some.1 h
      cases h
      rfl
    | _ => cases h <;> rfl
  | _ => cases h <;> rfl

theorem encode_of_decode2 (h : decode2 b c d = some i) : encode i = ofNibbles 0x2 b c d := by
  cases d using Nibble.cases <;> cases h <;> rfl

theorem encode_of_decode3 (h : decode3 b c d = some i) : encode i = ofNibbles 0x3 b c d := by
  cases d using Nibble.cases <;> cases h <;> rfl

theorem encode_of_decode40 (h : decode40 b d = some i) : encode i = ofNibbles 0x4 b 0x0 d := by
  cases d using Nibble.cases <;> cases h <;> rfl

theorem encode_of_decode41 (h : decode41 b d = some i) : encode i = ofNibbles 0x4 b 0x1 d := by
  cases d using Nibble.cases <;> cases h <;> rfl

theorem encode_of_decode42 (h : decode42 b d = some i) : encode i = ofNibbles 0x4 b 0x2 d := by
  cases d using Nibble.cases <;> cases h <;> rfl

theorem encode_of_decode4 (h : decode4 b c d = some i) : encode i = ofNibbles 0x4 b c d := by
  unfold decode4 at h
  split at h
  case isTrue hd =>
    cases h
    exact congrArg (ofNibbles 0x4 b c) hd.symm
  case isFalse =>
    cases c using Nibble.cases with
    | x0 => exact encode_of_decode40 h
    | x1 => exact encode_of_decode41 h
    | x2 => exact encode_of_decode42 h
    | _ => cases h

theorem encode_of_decode6 (h : decode6 b c d = some i) : encode i = ofNibbles 0x6 b c d := by
  cases d using Nibble.cases <;> cases h <;> rfl

/-- The encoder takes an 8-bit field apart as the decoder put it together. -/
theorem ofNibbles_field8 (a b c d : Nibble) :
    ofNibbles a b (hiNibble (field8 c d)) (loNibble (field8 c d)) = ofNibbles a b c d := by
  rw [hiNibble_field8, loNibble_field8]

/-- Bits 11-8 choose the instruction, with two nibbles as its operands or with an 8-bit field. -/
theorem encode_of_decode8 (h : decode8 b c d = some i) : encode i = ofNibbles 0x8 b c d := by
  cases b using Nibble.cases with
  | x0 | x1 | x4 | x5 => cases h; rfl
  | x8 | x9 | xB | xD | xF => cases h; exact ofNibbles_field8 _ _ c d
  | _ => cases h

theorem encode_of_decodeC (h : decodeC b c d = some i) : encode i = ofNibbles 0xC b c d := by
  cases b using Nibble.cases <;> cases h <;> exact ofNibbles_field8 _ _ c d

theorem nibble12_two_field12 (b c d : Nibble) : nibble12 2 (field12 b c d) = b :=
  (BitVec.extractLsb'_append_eq_of_le (by decide)).trans (hiNibble_field8 b c)

theorem nibble12_one_field12 (b c d : Nibble) : nibble12 1 (field12 b c d) = c :=
  (BitVec.extractLsb'_append_eq_of_le (by decide)).trans (loNibble_field8 b c)

theorem nibble12_zero_field12 (b c d : Nibble) : nibble12 0 (field12 b c d) = d :=
  BitVec.extractLsb'_append_eq_right

/-- The encoder takes a 12-bit field apart as the decoder put it together. -/
theorem ofNibbles_field12 (a b c d : Nibble) : ofNibbles a (nibble12 2 (field12 b c d))
    (nibble12 1 (field12 b c d)) (nibble12 0 (field12 b c d)) = ofNibbles a b c d := by
  rw [nibble12_two_field12, nibble12_one_field12, nibble12_zero_field12]

theorem encode_of_decodeNibbles (h : decodeNibbles a b c d = some i) : encode i = ofNibbles a b c d := by
  cases a using Nibble.cases with
  | x0 => exact encode_of_decode0 h
  | x2 => exact encode_of_decode2 h
  | x3 => exact encode_of_decode3 h
  | x4 => exact encode_of_decode4 h
  | x6 => exact encode_of_decode6 h
  | x8 => exact encode_of_decode8 h
  | xC => exact encode_of_decodeC h
  | x1 | x5 => cases h; rfl
  | x7 | x9 | xD | xE => cases h; exact ofNibbles_field8 _ b c d
  | xA | xB => cases h; exact ofNibbles_field12 _ b c d
  | xF => cases h

end

/-- Settles O2: the decoder reads the nibbles of the code, and what it answers is encoded in the same nibbles. -/
theorem encodeOfDecodeIsTheCode : Obligations.EncodeOfDecodeIsTheCode := fun w _ h =>
  (encode_of_decodeNibbles h).trans (ofNibbles_nibbles w)

end Sys2Proof
end

section
/-! PROOFS. The nine instructions of the SH7600 on the SH7000 (30_encoding.md R120, 60_exceptions.md R406). -/

namespace Sys2Proof.Machine

theorem State.onSH7600_of_sh7000 {s : State} (h : s.params.series = .sh7000) (k : Result) :
    s.onSH7600 k = s.illegalCode := by
  simp only [State.onSH7600, h]

theorem series_eq_sh7000_of_not_needed {ser : Series} (h : (Series.sh7600 == ser) = false) : ser = .sh7000 := by
  cases ser with
  | sh7000 => rfl
  | sh7600 => cases h

/-- Only the nine instructions that need the SH7600 can be ill-formed, and all of them stand behind its guard. -/
theorem exec_of_not_wellFormed {i : Instr} {s : State} (h : i.wellFormed s.params.series = false) :
    exec i s = s.illegalCode := by
  cases i with
  | dt | dmulsL | dmuluL | mulL | macL | bfS | btS | braf | bsrf =>
    exact State.onSH7600_of_sh7000 (series_eq_sh7000_of_not_needed h) _
  | _ => cases h

/-- Settles O39: the guard of the nine instructions takes the illegal code, in a delay slot and outside one. -/
theorem sh7600InstructionsOnTheSH7000 : Obligations.SH7600InstructionsOnTheSH7000 := by
  intro i s h
  rw [exec_of_not_wellFormed h]
  exact ⟨State.illegalCode_entersGeneral, fun _ => State.illegalCode_entersSlot⟩

end Sys2Proof.Machine
end

section
/-! PROOFS. What statements about codes, register moves, loads and stores come down to, said once for each form: a code
by the nibbles of its fields, the one register written, and the access of a load or a store case by case. -/

namespace Sys2Proof.Machine

/-! ### Codes by their fields -/

/-- The bitwise or of two codes, nibble by nibble. -/
theorem or_ofNibbles (a b c d a' b' c' d' : Nibble) :
    ofNibbles a b c d ||| ofNibbles a' b' c' d' = ofNibbles (a ||| a') (b ||| b') (c ||| c') (d ||| d') := by
  refine BitVec.eq_of_getLsbD_eq fun k hk => ?_
  simp only [ofNibbles, BitVec.getLsbD_or, BitVec.getLsbD_append]
  split_ifs <;> rfl

theorem nibble_at_bit0 (v : Nibble) : v.zeroExtend 16 = ofNibbles 0 0 0 v := by
  revert v; decide

theorem nibble_at_bit4 (v : Nibble) : v.zeroExtend 16 <<< 4 = ofNibbles 0 0 v 0 := by
  revert v; decide

theorem nibble_at_bit8 (v : Nibble) : v.zeroExtend 16 <<< 8 = ofNibbles 0 v 0 0 := by
  revert v; decide

theorem field8_at_bit0 (v : BitVec 8) : v.zeroExtend 16 = ofNibbles 0 0 (hiNibble v) (loNibble v) := by
  have h : ∀ c d, (field8 c d).zeroExtend 16 = ofNibbles 0 0 c d := by decide
  simpa using h (hiNibble v) (loNibble v)

/-- A code is that of an instruction where it is the instruction's encoding: what is encoded decodes. -/
theorem CodeOf.of_encode {w : Code} {i : Instr} (h : encode i = w) : CodeOf w i :=
  ⟨h ▸ decodeWord_encode i, h⟩

section
variable {base : Code} {i : Instr} {a b c d : Nibble} {n m : Reg} {v : BitVec 8}

theorem CodeOf.of_codeN (h : encode i = ofNibbles a n c d) (hb : base = ofNibbles a 0 c d) : CodeOf (codeN base n) i :=
  .of_encode (by simp [h, hb, codeN, nibble_at_bit8, or_ofNibbles])

theorem CodeOf.of_codeNM (h : encode i = ofNibbles a n m d) (hb : base = ofNibbles a 0 0 d) :
    CodeOf (codeNM base n m) i :=
  .of_encode (by simp [h, hb, codeNM, codeN, nibble_at_bit8, nibble_at_bit4, or_ofNibbles])

theorem CodeOf.of_codeImm (h : encode i = ofNibbles a b (hiNibble v) (loNibble v)) (hb : base = ofNibbles a b 0 0) :
    CodeOf (codeImm base v) i :=
  .of_encode (by simp only [h, hb, codeImm, field8_at_bit0, or_ofNibbles]; simp)

theorem CodeOf.of_codeNImm (h : encode i = ofNibbles a n (hiNibble v) (loNibble v)) (hb : base = ofNibbles a 0 0 0) :
    CodeOf (codeNImm base n v) i :=
  .of_encode (by simp only [h, hb, codeNImm, codeN, nibble_at_bit8, field8_at_bit0, or_ofNibbles]; simp)

theorem CodeOf.of_codeDisp4 (h : encode i = ofNibbles a b n d) (hb : base = ofNibbles a b 0 0) :
    CodeOf (codeDisp4 base n d) i :=
  .of_encode (by rw [h, hb, codeDisp4, nibble_at_bit4, nibble_at_bit0]; simp [or_ofNibbles])

theorem CodeOf.of_codeNMDisp (h : encode i = ofNibbles a n m d) (hb : base = ofNibbles a 0 0 0) :
    CodeOf (codeNMDisp base n m d) i :=
  .of_encode (by
    rw [h, hb, codeNMDisp, codeNM, codeN, nibble_at_bit8, nibble_at_bit4, nibble_at_bit0]; simp [or_ofNibbles])

end

/-! ### One register written -/

theorem SetsRegister.of_setReg {i : Instr} {s : State} {d : Reg} {v : Word} (h : exec i s = (s.setReg d v).done) :
    SetsRegister i s d v :=
  ⟨_, h, State.reg_setReg_self s d v, rfl, ((Frame.refl s [d] []).setReg List.mem_cons_self v).advance,
    .of_advance rfl rfl⟩

/-! ### Loads -/

section
variable {i : Instr} {s : State} {ea : Word} {sz : Size}

/-- A load is settled by what follows its access, whatever value and draw the access gives. -/
theorem Loads.of_load {regs : List Reg} {post : Word → State → Prop} {base : Word → State → State} {heldOff : Bool}
    {k : Word → State → Result} (hi : exec i s = s.load ea sz k)
    (hk : ∀ raw d, ∃ t, k raw (s.setDraws (s.draws + d)) = .next t ∧ post (sz.signExtend raw) t ∧
      t.sr = (base (sz.signExtend raw) s).sr ∧
      Frame { base (sz.signExtend raw) s with draws := s.draws + d } t regs [] ∧ Sequential s t heldOff) :
    Loads i s ea sz regs post base heldOff := by
  refine ⟨?_, fun h => hi.trans (State.load_misaccess h k), fun h => hi.trans (State.load_unmapped h k)⟩
  rintro (h | h)
  · obtain ⟨t, ht, hkept⟩ := hk (s.valueAt ea sz) 0
    have hread : s.reads ea sz (sz.signExtend (s.valueAt ea sz)) 0 := .inl ⟨h, s.held_eq ea sz, rfl⟩
    exact ⟨_, 0, t, hread, (hi.trans (State.load_ordinary h k)).trans ht, hkept⟩
  · obtain ⟨t, ht, hkept⟩ := hk (sz.cut (Config.deviceRead s.draws)) 1
    exact ⟨_, 1, t, .inr ⟨h, rfl, _, rfl⟩, (hi.trans (State.load_device h k)).trans ht, hkept⟩

theorem LoadsRegister.of_loadTo {d : Reg} (hi : exec i s = s.loadTo ea sz d) : LoadsRegister i s ea sz d :=
  Loads.of_load hi fun _ k => ⟨_, rfl, State.reg_setReg_self _ d _, rfl,
    (((Frame.refl s [d] []).setDraws (s.draws + k)).setReg List.mem_cons_self _).advance, .of_advance rfl rfl⟩

/-- The post-increment is lost where the register loaded is the one incremented (40_data_transfer.md R151-R153). -/
theorem Loads.of_loadPostInc {m n : Reg} (hi : exec i s = s.loadPostInc m n sz) :
    Loads i s (s.reg m) sz [n, m] (fun v t => t.reg n = v ∧ (n ≠ m → t.reg m = s.postInc m sz)) (fun _ s => s) false :=
  Loads.of_load hi fun raw k => by
    have hloaded : Frame { s with draws := s.draws + k }
        ((s.setDraws (s.draws + k)).setReg n (sz.signExtend raw)) [n, m] [] :=
      ((Frame.refl s [n, m] []).setDraws (s.draws + k)).setReg (by simp) _
    by_cases h : n = m
    · exact ⟨_, if_pos h, ⟨State.reg_setReg_self _ n _, absurd h⟩, rfl, hloaded.advance, .of_advance rfl rfl⟩
    · refine ⟨_, if_neg h, ⟨?_, fun _ => State.reg_setReg_self _ m _⟩, rfl, (hloaded.setReg (by simp) _).advance,
        .of_advance rfl rfl⟩
      simp [h]

end

/-! ### Stores -/

section
variable {i : Instr} {s : State} {ea v : Word} {sz : Size}

/-- A store is settled by what follows its access: an update of the registers `regs` that keeps SR and the sequencing
state of the states it starts from. -/
theorem Stores.of_store {regs : List Reg} {post : State → Prop} {heldOff : Bool} {k : State → Result}
    (hi : exec i s = s.store ea sz v k)
    (hk : ∀ u, u.sr = s.sr → u.pc = s.pc → u.slot = s.slot → ∃ t, k u = .next t ∧ post t ∧ t.sr = s.sr ∧
      (∀ b bytes, Frame b u regs bytes → Frame b t regs bytes) ∧ Sequential s t heldOff) :
    Stores i s ea sz v regs post s heldOff := by
  refine ⟨fun h => ?_, fun h => ?_, fun h => hi.trans (State.store_misaccess h v k),
    fun h => hi.trans (State.store_unmapped h v k)⟩
  · obtain ⟨t, ht, hpost, hsr, hframe, hseq⟩ := hk (s.putValue ea v sz) (by simp) (by simp) (by simp)
    have hstored : ∀ a, t.byteAt a = (s.putValue ea v sz).byteAt a := fun a =>
      (hframe _ [] (Frame.refl _ regs [])).memory a List.not_mem_nil
    exact ⟨t, (hi.trans (State.store_ordinary h v k)).trans ht,
      fun j hj => (hstored _).trans (s.bytes_putValue ea v sz j hj), hpost, hsr,
      hframe _ _ ((Frame.refl s regs _).putValue (fun _ h => h) v), hseq⟩
  · obtain ⟨t, ht, hpost, hsr, hframe, hseq⟩ := hk (s.deviceWrite ea v sz) rfl rfl rfl
    exact ⟨t, (hi.trans (State.store_device h v k)).trans ht, hpost, hsr,
      hframe _ _ ((Frame.refl s regs []).deviceWrite ea v sz), hseq⟩

theorem StoresRegister.of_storeFrom {m : Reg} (hi : exec i s = s.storeFrom m ea sz) : StoresRegister i s ea sz m :=
  Stores.of_store hi fun _ hsr hpc hslot =>
    ⟨_, rfl, trivial, hsr, fun _ _ => Frame.advance, .of_advance hpc hslot⟩

/-- Rn takes the address after the store, so an address error leaves it (40_data_transfer.md R148-R150). -/
theorem Stores.of_storePreDec {m n : Reg} (hi : exec i s = s.storePreDec m n sz) (hea : s.eaPreDec n sz = ea) :
    Stores i s ea sz (s.reg m) [n] (fun t => t.reg n = ea) s false := by
  subst hea
  exact Stores.of_store hi fun u hsr hpc hslot =>
    ⟨_, rfl, State.reg_setReg_self u n _, hsr, fun _ _ h => (h.setReg List.mem_cons_self _).advance,
      .of_advance hpc hslot⟩

end

end Sys2Proof.Machine
end

section
/-! PROOFS. Data transfer (40_data_transfer.md): each statement, instruction by instruction, from its code and
its form. -/

namespace Sys2Proof.Machine

/-! ### The values of the register moves, as the manual writes them -/

theorem bitWord_eq_ite (b : Bool) : bitWord b = if b then 1 else 0 := by
  cases b <;> rfl

/-- The bytes of the lower half exchanged (40_data_transfer.md R177). -/
theorem swapBytes_eq (x : Word) : (x.extractLsb' 16 16 ++ (x.extractLsb' 0 8 ++ x.extractLsb' 8 8) : Word) =
    (x &&& 0xFFFF0000) ||| ((x &&& 0xFF) <<< 8) ||| ((x &&& 0xFF00) >>> 8) := by
  refine BitVec.eq_of_getLsbD_eq fun k hk => ?_
  simp only [BitVec.getLsbD_append, BitVec.getLsbD_extractLsb']
  interval_cases k <;> simp

/-- A half below another: the upper half of the second moves down (40_data_transfer.md R178, R179). -/
theorem halves_eq (x y : Word) : x.extractLsb' 0 16 ++ y.extractLsb' 16 16 =
    (x <<< 16) ||| ((y >>> 16) &&& 0xFFFF) := by
  refine BitVec.eq_of_getLsbD_eq fun k hk => ?_
  simp only [BitVec.getLsbD_append, BitVec.getLsbD_extractLsb']
  interval_cases k <;> simp

theorem shiftLeft_and_upperHalf (x : Word) : (x <<< 16) &&& 0xFFFF0000 = x <<< 16 := by
  refine BitVec.eq_of_getLsbD_eq fun k hk => ?_
  interval_cases k <;> simp

/-! ### Displacements of a byte access are not scaled -/

theorem disp8_byte (d : BitVec 8) : disp8 d .byte = d.zeroExtend 32 :=
  BitVec.mul_one _

theorem disp4_byte (d : BitVec 4) : disp4 d .byte = d.zeroExtend 32 :=
  BitVec.mul_one _

/-! ### The statements -/

/-- Settles O14: each move completes with one register written; SWAP and XTRCT put their halves and bytes where the
shifts and masks of the manual do. -/
theorem registerMoves : Obligations.RegisterMoves := by
  intro m n imm disp s
  refine ⟨⟨.of_codeNM rfl rfl, .of_setReg rfl⟩, ⟨.of_codeNImm rfl rfl, .of_setReg rfl⟩,
    ⟨.of_codeImm rfl rfl, .of_setReg rfl⟩, ⟨.of_codeN rfl rfl, .of_setReg ?_⟩, ⟨.of_codeNM rfl rfl, .of_setReg ?_⟩,
    ⟨.of_codeNM rfl rfl, .of_setReg ?_⟩, ⟨.of_codeNM rfl rfl, .of_setReg ?_⟩⟩
  · rw [← bitWord_eq_ite]; rfl
  · rw [← swapBytes_eq]; rfl
  · rw [← halves_eq]; rfl
  · rw [shiftLeft_and_upperHalf, ← halves_eq]; rfl

/-- Settles O15: each load is a load into a register or one with post-increment, at the address its statement gives. -/
theorem loadsThroughRegisters : Obligations.LoadsThroughRegisters := fun _ _ _ =>
  ⟨⟨.of_codeNM rfl rfl, .of_loadTo rfl⟩, ⟨.of_codeNM rfl rfl, .of_loadTo rfl⟩, ⟨.of_codeNM rfl rfl, .of_loadTo rfl⟩,
    ⟨.of_codeNM rfl rfl, .of_loadTo rfl⟩, ⟨.of_codeNM rfl rfl, .of_loadTo rfl⟩, ⟨.of_codeNM rfl rfl, .of_loadTo rfl⟩,
    ⟨.of_codeNM rfl rfl, .of_loadPostInc rfl⟩, ⟨.of_codeNM rfl rfl, .of_loadPostInc rfl⟩,
    ⟨.of_codeNM rfl rfl, .of_loadPostInc rfl⟩⟩

/-- Settles O16: every load puts the value in one register; the addresses are those of the effective address forms. -/
theorem loadsWithDisplacement : Obligations.LoadsWithDisplacement := by
  intro m n disp d s
  refine ⟨⟨.of_codeNImm rfl rfl, .of_loadTo rfl⟩, ⟨.of_codeNImm rfl rfl, .of_loadTo rfl⟩, ⟨.of_codeImm rfl rfl, ?_⟩,
    ⟨.of_codeImm rfl rfl, .of_loadTo rfl⟩, ⟨.of_codeImm rfl rfl, .of_loadTo rfl⟩, ⟨.of_codeDisp4 rfl rfl, ?_⟩,
    ⟨.of_codeDisp4 rfl rfl, .of_loadTo rfl⟩, ⟨.of_codeNMDisp rfl rfl, .of_loadTo rfl⟩⟩
  · rw [← disp8_byte]; exact .of_loadTo rfl
  · rw [← disp4_byte]; exact .of_loadTo rfl

/-- Settles O17: each store is a store of a register or one with pre-decrement, at the address its statement gives. -/
theorem storesThroughRegisters : Obligations.StoresThroughRegisters := fun _ _ _ =>
  ⟨⟨.of_codeNM rfl rfl, .of_storeFrom rfl⟩, ⟨.of_codeNM rfl rfl, .of_storeFrom rfl⟩,
    ⟨.of_codeNM rfl rfl, .of_storeFrom rfl⟩, ⟨.of_codeNM rfl rfl, .of_storeFrom rfl⟩,
    ⟨.of_codeNM rfl rfl, .of_storeFrom rfl⟩, ⟨.of_codeNM rfl rfl, .of_storeFrom rfl⟩,
    ⟨.of_codeNM rfl rfl, .of_storePreDec rfl rfl⟩, ⟨.of_codeNM rfl rfl, .of_storePreDec rfl rfl⟩,
    ⟨.of_codeNM rfl rfl, .of_storePreDec rfl rfl⟩⟩

/-- Settles O18: every store is of a register, at the address of its effective address form. -/
theorem storesWithDisplacement : Obligations.StoresWithDisplacement := by
  intro m n disp d s
  refine ⟨⟨.of_codeImm rfl rfl, ?_⟩, ⟨.of_codeImm rfl rfl, .of_storeFrom rfl⟩, ⟨.of_codeImm rfl rfl, .of_storeFrom rfl⟩,
    ⟨.of_codeDisp4 rfl rfl, ?_⟩, ⟨.of_codeDisp4 rfl rfl, .of_storeFrom rfl⟩,
    ⟨.of_codeNMDisp rfl rfl, .of_storeFrom rfl⟩⟩
  · rw [← disp8_byte]; exact .of_storeFrom rfl
  · rw [← disp4_byte]; exact .of_storeFrom rfl

end Sys2Proof.Machine
end

section
/-! PROOFS. Arithmetic (41_arithmetic.md): an instruction that writes T, or one register and T, said once for each form;
what each flag computation means over the integers; then the statements, instruction by instruction. -/

namespace Sys2Proof.Machine

/-! ### T written, alone or with a register -/

theorem SetsT.of_setT {i : Instr} {s : State} {b : Bool} (h : exec i s = (s.setT b).done) : SetsT i s b :=
  ⟨_, h, rfl, rfl, ((Frame.refl s [] []).setT b).advance, .of_advance rfl rfl⟩

/-- A comparison that tests the condition `p`. -/
theorem SetsT.of_setT_iff {i : Instr} {s : State} {b : Bool} {p : Prop} [Decidable p] (h : exec i s = (s.setT b).done)
    (hp : b = true ↔ p) : SetsT i s (decide p) :=
  .of_setT (h.trans (by rw [Bool.eq_iff_iff.2 (hp.trans decide_eq_true_iff.symm)]))

theorem SetsRegisterAndT.of_setReg_setT {i : Instr} {s : State} {d : Reg} {v : Word} {b : Bool}
    (h : exec i s = ((s.setReg d v).setT b).done) : SetsRegisterAndT i s d v b :=
  ⟨_, h, State.reg_setReg_self s d v, rfl, rfl,
    (((Frame.refl s [d] []).setReg List.mem_cons_self v).setT b).advance, .of_advance rfl rfl⟩

/-- A relation between the value and T that an instruction writes holds of the register and of T after it. -/
theorem SetsRegisterAndT.related {i : Instr} {s : State} {d : Reg} {v : Word} {b : Bool} (P : Word → Bool → Prop)
    (h : SetsRegisterAndT i s d v b) (hP : P v b) :
    ∃ t, exec i s = .next t ∧ P (t.reg d) t.sr.t ∧ OnlyT s t ∧ Frame s t [d] [] ∧ Sequential s t false := by
  obtain ⟨t, ht, hv, hb, hrest⟩ := h
  exact ⟨t, ht, hv ▸ hb ▸ hP, hrest⟩

theorem State.onSH7600_of_sh7600 {s : State} (h : s.params.series = .sh7600) (k : Result) : s.onSH7600 k = k := by
  simp only [State.onSH7600, h]

/-! ### The zero extensions as the manual masks them (R222, R223) -/

theorem zeroExtend_lowBits (x : Word) {k : Nat} (hk : k ≤ 32) :
    (x.extractLsb' 0 k).zeroExtend 32 = x &&& BitVec.ofNat 32 (2 ^ k - 1) := by
  have hpow : 2 ^ k ≤ 2 ^ 32 := Nat.pow_le_pow_right (by decide) hk
  have hlow : x.toNat % 2 ^ k < 2 ^ k := Nat.mod_lt _ (by positivity)
  refine BitVec.eq_of_toNat_eq ?_
  calc ((x.extractLsb' 0 k).zeroExtend 32).toNat
      = x.toNat % 2 ^ k % 2 ^ 32 := by rw [BitVec.zeroExtend, BitVec.toNat_setWidth, BitVec.extractLsb'_toNat]; rfl
    _ = x.toNat % 2 ^ k := Nat.mod_eq_of_lt (hlow.trans_le hpow)
    _ = x.toNat &&& (2 ^ k - 1) := (Nat.and_two_pow_sub_one_eq_mod _ k).symm
    _ = (x &&& BitVec.ofNat 32 (2 ^ k - 1)).toNat := by
      rw [BitVec.toNat_and, BitVec.toNat_ofNat, Nat.mod_eq_of_lt (by omega)]

/-! ### Bits as numbers -/

@[simp] theorem bitNat_true : bitNat true = 1 := rfl
@[simp] theorem bitNat_false : bitNat false = 0 := rfl

theorem bitNat_le_one (b : Bool) : bitNat b ≤ 1 := by
  cases b <;> decide

/-- The exclusive or of three bits is the low bit of their sum. -/
theorem bitNat_xor (a b c : Bool) : bitNat ((a ^^ b) ^^ c) = (bitNat a + bitNat b + bitNat c) % 2 := by
  revert a b c; decide

/-! ### Carry, borrow and overflow over the integers -/

/-- The sum of two words and a carry, no bit lost (R203). -/
theorem addCarry_exact (a b : Word) (c : Bool) :
    (addCarry a b c).value.toNat + 2 ^ 32 * bitNat (addCarry a b c).t = a.toNat + b.toNat + bitNat c := by
  have hc := bitNat_le_one c
  by_cases hcarry : 2 ^ 32 ≤ a.toNat + b.toNat + bitNat c
  · simp only [addCarry, hcarry, decide_true, bitNat_true, BitVec.toNat_ofNat]
    omega
  · simp only [addCarry, hcarry, decide_false, bitNat_false, BitVec.toNat_ofNat]
    omega

/-- The difference of two words and a borrow, no bit lost (R231, R234). -/
theorem subBorrow_exact (a b : Word) (c : Bool) :
    (subBorrow a b c).value.toNat + b.toNat + bitNat c = a.toNat + 2 ^ 32 * bitNat (subBorrow a b c).t := by
  have hc := bitNat_le_one c
  by_cases hborrow : (a.toNat : Int) - b.toNat - bitNat c < 0
  · simp only [subBorrow, hborrow, decide_true, bitNat_true, BitVec.toNat_ofInt]
    omega
  · simp only [subBorrow, hborrow, decide_false, bitNat_false, BitVec.toNat_ofInt]
    omega

/-- The sign rule for an overflow of a sum says exactly that the signed sum is out of range (R204). -/
theorem addOverflow_t (a b : Word) :
    (addOverflow a b).t = decide (a.toInt + b.toInt < -2 ^ 31 ∨ 2 ^ 31 - 1 < a.toInt + b.toInt) := by
  have hsign : (addOverflow a b).t = a.saddOverflow b := (BitVec.saddOverflow_eq a b).symm
  rw [hsign, BitVec.saddOverflow, ← Bool.decide_or, decide_eq_decide]
  omega

/-- The sign rule for an overflow of a difference says exactly that the signed difference is out of range (R235). -/
theorem subOverflow_t (a b : Word) :
    (subOverflow a b).t = decide (a.toInt - b.toInt < -2 ^ 31 ∨ 2 ^ 31 - 1 < a.toInt - b.toInt) := by
  have hsign : (subOverflow a b).t = a.ssubOverflow b := by
    rw [BitVec.ssubOverflow_eq, subOverflow]
    cases a.msb <;> cases b.msb <;> cases (a - b).msb <;> rfl
  rw [hsign, BitVec.ssubOverflow, ← Bool.decide_or, decide_eq_decide]
  omega

/-- The sign bits differ exactly where one number is negative and the other is not (R215). -/
theorem msb_xor_msb (a b : Word) : (a.msb ^^ b.msb) = decide (¬(a.toInt < 0 ↔ b.toInt < 0)) := by
  rw [BitVec.msb_eq_toInt, BitVec.msb_eq_toInt, decide_not, Bool.decide_iff_dist, ← Bool.bne_eq_xor]
  rfl

/-! ### Bytes in the same place (R213) -/

/-- A byte of an exclusive or is 0 exactly where the bytes are equal. -/
theorem xorByte_eq_zero (a b : Word) (k : Nat) : (a ^^^ b).extractLsb' (8 * k) 8 = 0 ↔
    a.toNat / 256 ^ k % 256 = b.toNat / 256 ^ k % 256 := by
  have hbyte : ∀ x : Word, (x.extractLsb' (8 * k) 8).toNat = x.toNat / 256 ^ k % 256 := fun x => by
    rw [BitVec.extractLsb'_toNat, Nat.shiftRight_eq_div_pow, pow_mul]; rfl
  rw [BitVec.extractLsb'_xor, ← hbyte, ← hbyte, BitVec.toNat_inj]
  exact BitVec.xor_eq_zero_iff

theorem someByteEqual_iff (a b : Word) : someByteEqual a b = true ↔
    ∃ k, k < 4 ∧ a.toNat / 256 ^ k % 256 = b.toNat / 256 ^ k % 256 := by
  simp only [← xorByte_eq_zero, someByteEqual, Bool.or_eq_true, beq_iff_eq]
  constructor
  · rintro (((h | h) | h) | h)
    exacts [⟨3, by decide, h⟩, ⟨2, by decide, h⟩, ⟨1, by decide, h⟩, ⟨0, by decide, h⟩]
  · rintro ⟨k, hk, h⟩
    interval_cases k
    exacts [.inr h, .inl (.inr h), .inl (.inl (.inr h)), .inl (.inl (.inl h))]

/-! ### The division step (R217) -/

theorem shiftLeft_or_bitWord (x : Word) (c : Bool) : (x <<< 1) ||| bitWord c = x.shiftConcat c := by
  refine BitVec.eq_of_getLsbD_eq fun k hk => ?_
  cases k <;> simp [bitWord, hk]

theorem toNat_shifted (x : Word) (c : Bool) :
    ((x <<< 1) ||| bitWord c).toNat = (2 * x.toNat + bitNat c) % 2 ^ 32 := by
  have hc : c.toNat = bitNat c := by cases c <;> rfl
  rw [shiftLeft_or_bitWord, BitVec.toNat_shiftConcat, hc, Nat.shiftLeft_eq, pow_one, Nat.mul_comm]

/-- The partial remainder shifted with T entering at bit 0: with the bit shifted out it is twice the old one and T. -/
theorem shifted_exact (x : Word) (c : Bool) :
    ((x <<< 1) ||| bitWord c).toNat + 2 ^ 32 * bitNat x.msb = 2 * x.toNat + bitNat c := by
  have hvalue := toNat_shifted x c
  have hc := bitNat_le_one c
  by_cases hout : 2 ^ 31 ≤ x.toNat
  · simp only [BitVec.msb_eq_decide, hout, decide_true, bitNat_true]
    omega
  · simp only [BitVec.msb_eq_decide, hout, decide_false, bitNat_false]
    omega

/-- A sum that wrapped around is below its first term. -/
theorem toNat_add_carry (a b : Word) :
    (a + b).toNat + 2 ^ 32 * bitNat (decide ((a + b).toNat < a.toNat)) = a.toNat + b.toNat := by
  have hsum := BitVec.toNat_add a b
  by_cases hcarry : (a + b).toNat < a.toNat
  · simp only [hcarry, decide_true, bitNat_true]
    omega
  · simp only [hcarry, decide_false, bitNat_false]
    omega

/-- A difference that wrapped around is above its first term. -/
theorem toNat_sub_borrow (a b : Word) :
    (a - b).toNat + b.toNat = a.toNat + 2 ^ 32 * bitNat (decide (a.toNat < (a - b).toNat)) := by
  have hdiff := BitVec.toNat_sub a b
  by_cases hborrow : a.toNat < (a - b).toNat
  · simp only [hborrow, decide_true, bitNat_true]
    omega
  · simp only [hborrow, decide_false, bitNat_false]
    omega

/-- Q and the value of a step are one sum or difference of 33-bit numbers: Q is bit 32, the exclusive or of the bits 32
of the two terms and the carry or borrow into them. -/
theorem divStep_exact (m oldQ out : Bool) (x d : Word) :
    (divStep m oldQ out x d).value.toNat + 2 ^ 32 * bitNat (divStep m oldQ out x d).q =
      (if oldQ = m then x.toNat + 2 ^ 32 * bitNat out + 2 ^ 33 - (d.toNat + 2 ^ 32 * bitNat m)
        else x.toNat + 2 ^ 32 * bitNat out + (d.toNat + 2 ^ 32 * bitNat m)) % 2 ^ 33 := by
  have hout := bitNat_le_one out
  have hm := bitNat_le_one m
  by_cases hq : oldQ = m
  · have hborrow := toNat_sub_borrow x d
    simp only [divStep, if_pos hq, bitNat_xor]
    omega
  · have hcarry := toNat_add_carry x d
    simp only [divStep, if_neg hq, bitNat_xor]
    omega

/-! ### The partial remainder of an unsigned division (R214) -/

/-- Q and a register as one signed number of 33 bits. -/
def partialRemainder (x : Word) (q : Bool) : Int := x.toNat - 2 ^ 32 * bitNat q

/-- Q is the sign of the partial remainder. -/
theorem partialRemainder_nonneg_iff (x : Word) (q : Bool) : 0 ≤ partialRemainder x q ↔ q = false := by
  cases q
  · simp only [partialRemainder, bitNat_false, iff_true]
    omega
  · simp only [partialRemainder, bitNat_true, Bool.true_eq_false, iff_false]
    omega

/-- Within the bounds, a 33-bit sum or difference read as a signed number is the exact one. -/
theorem partialRemainder_next {x x' d : Word} {q q' c : Bool}
    (hsum : x'.toNat + 2 ^ 32 * bitNat q' =
      (if q = false then 2 * x.toNat + bitNat c + 2 ^ 33 - d.toNat else 2 * x.toNat + bitNat c + d.toNat) % 2 ^ 33)
    (hlo : -(d.toNat : Int) ≤ partialRemainder x q) (hhi : partialRemainder x q < d.toNat) :
    partialRemainder x' q' =
      2 * partialRemainder x q + bitNat c - (if 0 ≤ partialRemainder x q then (d.toNat : Int) else -d.toNat) := by
  have hc := bitNat_le_one c
  have hq' := bitNat_le_one q'
  simp only [partialRemainder_nonneg_iff]
  cases q
  · simp only [partialRemainder, bitNat_false, if_true] at hsum hlo hhi ⊢
    omega
  · simp only [partialRemainder, bitNat_true, Bool.true_eq_false, if_false] at hsum hlo hhi ⊢
    omega

/-- Twice a number within the bounds, and a bit, comes back within them where the divisor is subtracted from what is not
negative and added to what is. -/
theorem doubled_within_bounds {p d : Int} (c : Bool) (hlo : -d ≤ p) (hhi : p < d) :
    -d ≤ 2 * p + bitNat c - (if 0 ≤ p then d else -d) ∧ 2 * p + bitNat c - (if 0 ≤ p then d else -d) < d := by
  have hc := bitNat_le_one c
  by_cases hp : 0 ≤ p
  · rw [if_pos hp]
    omega
  · rw [if_neg hp]
    omega

/-! ### The statements -/

/-- Settles O19: each instruction completes with one register written; the zero extensions are masks. -/
theorem addSubNegExtend : Obligations.AddSubNegExtend := by
  intro m n imm s
  refine ⟨⟨.of_codeNM rfl rfl, .of_setReg rfl⟩, ⟨.of_codeNImm rfl rfl, .of_setReg rfl⟩,
    ⟨.of_codeNM rfl rfl, .of_setReg rfl⟩, ⟨.of_codeNM rfl rfl, .of_setReg ?_⟩, ⟨.of_codeNM rfl rfl, .of_setReg ?_⟩,
    ⟨.of_codeNM rfl rfl, .of_setReg ?_⟩, ⟨.of_codeNM rfl rfl, .of_setReg ?_⟩, ⟨.of_codeNM rfl rfl, .of_setReg ?_⟩⟩
  · rw [← BitVec.zero_sub]; rfl
  · rw [BitVec.truncate_eq_setWidth, BitVec.setWidth_eq_extractLsb' (by decide)]; rfl
  · rw [BitVec.truncate_eq_setWidth, BitVec.setWidth_eq_extractLsb' (by decide)]; rfl
  · exact congrArg (fun v => (s.setReg n v).done) (zeroExtend_lowBits (s.reg m) (by decide : 8 ≤ 32))
  · exact congrArg (fun v => (s.setReg n v).done) (zeroExtend_lowBits (s.reg m) (by decide : 16 ≤ 32))

/-- Settles O20: value and T together are the exact sum or difference that the carry and borrow of the model give. -/
theorem carryAndBorrowAreExact : Obligations.CarryAndBorrowAreExact := by
  intro m n s
  refine ⟨⟨.of_codeNM rfl rfl, ?_⟩, ⟨.of_codeNM rfl rfl, ?_⟩, ⟨.of_codeNM rfl rfl, ?_⟩⟩
  · exact (SetsRegisterAndT.of_setReg_setT rfl).related (fun v b => v.toNat + 2 ^ 32 * bitNat b = _)
      (addCarry_exact (s.reg n) (s.reg m) s.sr.t)
  · exact (SetsRegisterAndT.of_setReg_setT rfl).related (fun v b => v.toNat + _ + _ = _ + 2 ^ 32 * bitNat b)
      (subBorrow_exact (s.reg n) (s.reg m) s.sr.t)
  · exact (SetsRegisterAndT.of_setReg_setT rfl).related (fun v b => v.toNat + _ + _ = 2 ^ 32 * bitNat b)
      ((subBorrow_exact 0 (s.reg m) s.sr.t).trans (Nat.zero_add _))

/-- Settles O21: the T of the model's sign rules is signed overflow. -/
theorem signedOverflowIsExact : Obligations.SignedOverflowIsExact := by
  intro m n s
  refine ⟨⟨.of_codeNM rfl rfl, ?_⟩, ⟨.of_codeNM rfl rfl, ?_⟩⟩
  · rw [← addOverflow_t]; exact .of_setReg_setT rfl
  · rw [← subOverflow_t]; exact .of_setReg_setT rfl

/-- Settles O22: each comparison writes T alone, with the equality or the order of the integers it asks for. -/
theorem comparisons : Obligations.Comparisons := by
  intro m n imm s
  have himm : s.reg 0 = immSigned imm ↔ (s.reg 0).toInt = imm.toInt := by
    rw [immSigned, ← BitVec.toInt_inj, BitVec.toInt_signExtend_of_le (by decide)]
  refine ⟨⟨.of_codeImm rfl rfl, .of_setT_iff rfl (beq_iff_eq.trans himm)⟩,
    ⟨.of_codeNM rfl rfl, .of_setT_iff rfl beq_iff_eq⟩,
    ⟨.of_codeNM rfl rfl, .of_setT_iff rfl BitVec.ule_iff_toNat_le⟩,
    ⟨.of_codeNM rfl rfl, .of_setT_iff rfl BitVec.sle_iff_toInt_le⟩,
    ⟨.of_codeNM rfl rfl, .of_setT_iff rfl BitVec.ult_iff_toNat_lt⟩,
    ⟨.of_codeNM rfl rfl, .of_setT_iff rfl BitVec.slt_iff_toInt_lt⟩,
    ⟨.of_codeN rfl rfl, .of_setT_iff rfl BitVec.slt_iff_toInt_lt⟩,
    ⟨.of_codeN rfl rfl, .of_setT_iff rfl BitVec.sle_iff_toInt_le⟩, ⟨.of_codeNM rfl rfl, ?_⟩⟩
  obtain ⟨t, ht, hb, hrest⟩ := SetsT.of_setT (i := .cmpStr m n) (s := s) rfl
  exact ⟨t, ht, hb ▸ someByteEqual_iff _ _, hrest⟩

/-- Settles O23: the signs go to M and Q, their difference to T; DT is behind the guard of the SH7600. -/
theorem divisionInitialisationAndDecrement : Obligations.DivisionInitialisationAndDecrement := by
  intro m n s
  refine ⟨⟨.of_codeNM rfl rfl, _, rfl, ?_, ((Frame.refl s [] []).setMQT _ _ _).advance, .of_advance rfl rfl⟩,
    ⟨.of_encode rfl, _, rfl, rfl, ((Frame.refl s [] []).setMQT _ _ _).advance, .of_advance rfl rfl⟩,
    .of_codeN rfl rfl, fun h => State.onSH7600_of_sh7000 h _, fun h => ?_⟩
  · rw [← msb_xor_msb, ← BitVec.msb_eq_toInt, ← BitVec.msb_eq_toInt]
    rfl
  · have hzero : s.reg n - 1 = 0 ↔ (s.reg n).toNat = 1 := by bv_omega
    rw [← decide_eq_decide.2 hzero]
    exact .of_setReg_setT (State.onSH7600_of_sh7600 h _)

/-- Settles O24: the step is an exact shift, then one exact sum or difference of 33-bit numbers; the divisor is read
after the shift. -/
theorem divisionStepIsA33BitSum : Obligations.DivisionStepIsA33BitSum := by
  intro m n s
  have hdivisor : ((s.setReg n ((s.reg n <<< 1) ||| bitWord s.sr.t)).reg m).toNat =
      if m = n then (2 * (s.reg n).toNat + bitNat s.sr.t) % 2 ^ 32 else (s.reg m).toNat := by
    rw [State.reg_setReg, apply_ite BitVec.toNat, toNat_shifted]
  refine ⟨.of_codeNM rfl rfl, _, rfl, ?_, rfl,
    ((((Frame.refl s [n] []).setReg List.mem_cons_self _).setReg List.mem_cons_self _).setQT _ _).advance,
    .of_advance rfl rfl⟩
  rw [← hdivisor, ← shifted_exact]
  simpa using divStep_exact s.sr.m s.sr.q (s.reg n).msb ((s.reg n <<< 1) ||| bitWord s.sr.t) _

/-- Settles O25: within the bounds the 33-bit result of the step, read as a signed number, loses nothing. -/
theorem unsignedDivisionStepKeepsTheRemainder : Obligations.UnsignedDivisionStepKeepsTheRemainder := by
  intro m n s hmn hm d p hlo hhi
  obtain ⟨-, t, ht, hsum, hsr, hframe, -⟩ := divisionStepIsA33BitSum m n s
  have hquotient : t.sr.t = decide (t.sr.q = s.sr.m) := congrArg StatusReg.t hsr
  have hdivisor : t.sr.m = s.sr.m := (congrArg StatusReg.m hsr :)
  simp only [if_neg hmn, hm, bitNat_false] at hsum
  have hnext := partialRemainder_next hsum hlo hhi
  obtain ⟨hlo', hhi'⟩ := doubled_within_bounds s.sr.t hlo hhi
  refine ⟨t, ht, ⟨hnext, hlo'.trans_eq hnext.symm, hnext.trans_lt hhi', ?_⟩, hdivisor.trans hm,
    hframe.regs m (by simpa using hmn)⟩
  rw [hquotient, hm]
  exact decide_eq_decide.2 (partialRemainder_nonneg_iff (t.reg n) t.sr.q).symm

end Sys2Proof.Machine
end

section
/-! PROOFS. Multiply and multiply-accumulate (42_multiply_mac.md): the accumulator as one number on each series; what the sums
of the model mean over the integers; the two operand reads of MAC.L and MAC.W, said once for both; then the statements,
instruction by instruction. -/

namespace Sys2Proof.Machine

/-! ### The accumulator MACH:MACL (10_state.md R33) -/

theorem Frame.accumulator {s t : State} {regs : List Reg} {bytes : List Word} (h : Frame s t regs bytes)
    (hi lo : Word) : Frame { s with mach := hi, macl := lo } { t with mach := hi, macl := lo } regs bytes :=
  ⟨h.regs, h.gbr, h.vbr, rfl, rfl, h.pr, h.mode, h.memory, h.params, h.inputs, h.sby, h.deviceWrites, h.draws⟩

/-- The completion of an instruction whose effect is MACH and MACL. -/
theorem State.advance_accumulator (s : State) (hi lo : Word) :
    (State.advance { s with mach := hi, macl := lo }).sr = s.sr ∧
      Frame { s with mach := hi, macl := lo } (State.advance { s with mach := hi, macl := lo }) [] [] ∧
      Sequential s (State.advance { s with mach := hi, macl := lo }) false :=
  ⟨rfl, ((Frame.refl s [] []).accumulator hi lo).advance, .of_advance rfl rfl⟩

/-- On the SH7600 MACH holds whatever is written. -/
theorem State.machHeld_of_sh7600 {s : State} (h : s.params.series = .sh7600) : s.machHeld := fun h' => by
  rw [h] at h'
  cases h'

theorem State.machValue_of_held {s : State} (h : s.machHeld) : s.machValue = s.mach := by
  cases hser : s.params.series with
  | sh7600 => rw [State.machValue, hser]; rfl
  | sh7000 => rw [State.machValue, hser]; exact (h hser).symm

theorem State.mac_of_held {s : State} (h : s.machHeld) : s.mac = s.mach ++ s.macl := by
  rw [State.mac, State.machValue_of_held h]

/-- On the SH7600 a value written to MACH:MACL is kept whole. -/
theorem State.mach_append_macl_setMac {s : State} (h : s.params.series = .sh7600) (v : BitVec 64) :
    (s.setMac v).mach ++ (s.setMac v).macl = v := by
  rw [State.setMac_mach, State.setMac_macl, h]
  exact BitVec.extractLsb'_append_extractLsb' (w := 32) (len := 32)

theorem extractLsb'_signExtend {w v : Nat} (x : BitVec w) (h : w ≤ v) : (x.signExtend v).extractLsb' 0 w = x := by
  ext k hk
  simp [BitVec.getElem_signExtend, hk, show k < v by omega]

theorem signExtend10_signExtend (x : BitVec 10) : signExtend10 (x.signExtend 32) = x.signExtend 32 := by
  rw [signExtend10, extractLsb'_signExtend x (by decide)]

/-- The form in which MACH is held keeps bit 0: setting it leaves MACH held. -/
theorem machForm_or_one (ser : Series) (v : Word) : machForm ser (v ||| 1) = machForm ser v ||| 1 := by
  cases ser with
  | sh7600 => rfl
  | sh7000 =>
    have hone : signExtend10 1 = 1 := by decide
    calc signExtend10 (v ||| 1) = signExtend10 v ||| signExtend10 1 := by
          simp only [signExtend10, BitVec.extractLsb'_or, BitVec.signExtend_or]
      _ = signExtend10 v ||| 1 := by rw [hone]

/-! ### Products as integers -/

/-- A signed product of two words fits twice their width. -/
theorem toInt_ofInt_mul {w : Nat} (hw : 0 < w) (x y : BitVec w) :
    (BitVec.ofInt (w * 2) (x.toInt * y.toInt)).toInt = x.toInt * y.toInt := by
  have hroom : (2 : Int) ^ (w * 2 - 2) < 2 ^ (w * 2 - 1) := pow_lt_pow_right₀ (by decide) (by omega)
  have hlo : -2 ^ (w * 2 - 2) ≤ x.toInt * y.toInt := BitVec.le_toInt_mul_toInt
  have hhi : x.toInt * y.toInt ≤ 2 ^ (w * 2 - 2) := BitVec.toInt_mul_toInt_le
  exact BitVec.toInt_ofInt_eq_self (by omega) (by omega) (by omega)

/-- An unsigned product of two words fits twice their width. -/
theorem toNat_ofNat_mul {w : Nat} (x y : BitVec w) :
    (BitVec.ofNat (w * 2) (x.toNat * y.toNat)).toNat = x.toNat * y.toNat := by
  rw [BitVec.toNat_ofNat, Nat.mod_eq_of_lt]
  calc x.toNat * y.toNat < 2 ^ w * 2 ^ w := Nat.mul_lt_mul'' x.isLt y.isLt
    _ = 2 ^ (w * 2) := by rw [← Nat.pow_add, Nat.mul_two]

/-! ### Limited sums as integers (R247, R248) -/

theorem clamp_eq_max_min {lo hi : Int} (h : lo ≤ hi) (r : Int) : clamp lo hi r = max lo (min hi r) := by
  unfold clamp
  split_ifs <;> omega

theorem macLongSum_limited (acc : BitVec 64) (x y : Word) : (macLongSum true acc x y).toInt =
    max (-2 ^ 47) (min (2 ^ 47 - 1) ((acc.truncate 48).toInt + x.toInt * y.toInt)) := by
  rw [BitVec.truncate_eq_setWidth, BitVec.setWidth_eq_extractLsb' (by decide), ← clamp_eq_max_min (by decide)]
  refine BitVec.toInt_ofInt_eq_self (by decide) ?_ ?_ <;> rw [clamp_eq_max_min (by decide)] <;> omega

theorem macLongSum_wraps (acc : BitVec 64) (x y : Word) :
    macLongSum false acc x y = BitVec.ofInt 64 (acc.toInt + x.toInt * y.toInt) := rfl

section
variable {s : State} (x y : BitVec 16)

/-- MAC.W writes MACH and MACL alone. -/
theorem State.macWordSum_eq : s.macWordSum x y =
    { s with mach := (s.macWordSum x y).mach, macl := (s.macWordSum x y).macl } := by
  unfold State.macWordSum
  dsimp only
  split
  · split <;> rfl
  · split <;> rfl

theorem State.macWordSum_limited_macl (hs : s.sr.s = true) : (s.macWordSum x y).macl.toInt =
    max (-2 ^ 31) (min (2 ^ 31 - 1) (s.macl.toInt + x.toInt * y.toInt)) := by
  have hmacl : (s.macWordSum x y).macl =
      BitVec.ofInt 32 (clamp (-2 ^ 31) (2 ^ 31 - 1) (s.macl.toInt + x.toInt * y.toInt)) := by
    simp only [State.macWordSum, if_pos hs]
    split <;> rfl
  rw [hmacl, clamp_eq_max_min (by decide)]
  exact BitVec.toInt_ofInt_eq_self (by decide) (by omega) (by omega)

theorem State.macWordSum_limited_mach (hs : s.sr.s = true) (hheld : s.machHeld) : (s.macWordSum x y).mach =
    if -2 ^ 31 ≤ s.macl.toInt + x.toInt * y.toInt ∧ s.macl.toInt + x.toInt * y.toInt ≤ 2 ^ 31 - 1 then s.mach
    else s.mach ||| 1 := by
  simp only [State.macWordSum, if_pos hs]
  split_ifs with hout hin hin
  · omega
  · calc machForm s.params.series (s.machValue ||| 1)
        = machForm s.params.series (s.mach ||| 1) := by rw [State.machValue_of_held hheld]
      _ = s.machValue ||| 1 := machForm_or_one _ _
      _ = s.mach ||| 1 := by rw [State.machValue_of_held hheld]
  · rfl
  · omega

theorem State.macWordSum_sh7600 (hs : s.sr.s = false) (hser : s.params.series = .sh7600) :
    (s.macWordSum x y).mach ++ (s.macWordSum x y).macl =
      BitVec.ofInt 64 ((s.mach ++ s.macl).toInt + x.toInt * y.toInt) := by
  have hsum : s.macWordSum x y = s.setMac (BitVec.ofInt 64 (s.mac.toInt + x.toInt * y.toInt)) := by
    simp only [State.macWordSum, hs, hser, Bool.false_eq_true, if_false]
  rw [hsum, State.mach_append_macl_setMac hser, State.mac_of_held (State.machHeld_of_sh7600 hser)]

/-- The 42 bits of the sum: ten go to MACH, sign-extended, the others to MACL (R249). -/
theorem State.macWordSum_sh7000 (hs : s.sr.s = false) (hser : s.params.series = .sh7000) (hheld : s.machHeld) :
    ((s.macWordSum x y).mach ++ (s.macWordSum x y).macl).truncate 42 =
        BitVec.ofInt 42 (((s.mach ++ s.macl).truncate 42).toInt + x.toInt * y.toInt) ∧
      (s.macWordSum x y).mach = signExtend10 (s.macWordSum x y).mach := by
  have hacc : s.mac.extractLsb' 0 42 = (s.mach ++ s.macl).truncate 42 := by
    rw [State.mac_of_held hheld, BitVec.truncate_eq_setWidth, BitVec.setWidth_eq_extractLsb' (by decide)]
  obtain ⟨r, hr⟩ : ∃ r, r = BitVec.ofInt 42 (((s.mach ++ s.macl).truncate 42).toInt + x.toInt * y.toInt) := ⟨_, rfl⟩
  have hsum : s.macWordSum x y = (s.setMach ((r.extractLsb' 32 10).signExtend 32)).setMacl (r.extractLsb' 0 32) := by
    simp only [State.macWordSum, hs, hser, hacc, ← hr, Bool.false_eq_true, if_false]
  have hmach : (s.macWordSum x y).mach = (r.extractLsb' 32 10).signExtend 32 := by
    rw [hsum, State.setMacl_mach, State.setMach_mach, hser]
    exact signExtend10_signExtend _
  have hmacl : (s.macWordSum x y).macl = r.extractLsb' 0 32 := by rw [hsum, State.setMacl_macl]
  rw [hmach, hmacl, ← hr]
  refine ⟨?_, (signExtend10_signExtend _).symm⟩
  calc ((r.extractLsb' 32 10).signExtend 32 ++ r.extractLsb' 0 32).truncate 42
      = ((r.extractLsb' 32 10).signExtend 32).setWidth 10 ++ (r.extractLsb' 0 32).setWidth 32 :=
        BitVec.setWidth_append_of_eq (v' := 10) rfl
    _ = r.extractLsb' 32 10 ++ r.extractLsb' 0 32 := by
        rw [BitVec.setWidth_eq_extractLsb' (by decide), extractLsb'_signExtend _ (by decide), BitVec.setWidth_eq]
    _ = r := BitVec.extractLsb'_append_extractLsb' (w := 10) (len := 32)

end

/-! ### The operands of MAC.L and MAC.W (R246) -/

/-- The address can be read, and the read draws `d` free values (20_memory.md R75). -/
def State.readable (s : State) (a : Word) (sz : Size) (d : Nat) : Prop :=
  s.ordinary a sz ∧ d = 0 ∨ s.device a sz ∧ d = 1

/-- The state once the operand at Rn is read, with `d` free values drawn, and Rn incremented. -/
def State.operandRead (s : State) (n : Reg) (sz : Size) (d : Nat) : State :=
  (s.setDraws (s.draws + d)).setReg n (s.reg n + BitVec.ofNat 32 sz.bytes)

section
variable {i : Instr} {s : State} {m n : Reg} {sz : Size} {d : Nat}

theorem State.exists_readable {a : Word} (h : s.ordinary a sz ∨ s.device a sz) : ∃ d, s.readable a sz d :=
  h.elim (fun h => ⟨0, .inl ⟨h, rfl⟩⟩) fun h => ⟨1, .inr ⟨h, rfl⟩⟩

theorem State.load_readable {a : Word} (h : s.readable a sz d) :
    ∃ raw, s.reads a sz (sz.signExtend raw) d ∧ ∀ k, s.load a sz k = k raw (s.setDraws (s.draws + d)) := by
  obtain ⟨h, rfl⟩ | ⟨h, rfl⟩ := h
  · exact ⟨s.valueAt a sz, .inl ⟨h, s.held_eq a sz, rfl⟩, State.load_ordinary h⟩
  · exact ⟨_, .inr ⟨h, rfl, _, rfl⟩, State.load_device h⟩

/-- The address of the second operand: where Rm is Rn, the one after the first. -/
theorem State.reg_operandRead (s : State) (m n : Reg) (sz : Size) (d : Nat) : (s.operandRead n sz d).reg m =
    if m = n then s.reg n + BitVec.ofNat 32 sz.bytes else s.reg m :=
  State.reg_setReg _ n m _

theorem Frame.operandRead {t : State} {regs : List Reg} {bytes : List Word} (h : Frame s t regs bytes) (hn : n ∈ regs)
    (sz : Size) (d : Nat) : Frame { s with draws := s.draws + d } (t.operandRead n sz d) regs bytes :=
  h.draws ▸ (h.setDraws (t.draws + d)).setReg hn _

/-- Where the operand at Rn can be read, what follows is the read of the one at Rm, from the state the first left. -/
theorem State.macOperands_of_first (h : s.readable (s.reg n) sz d) :
    ∃ raw, s.reads (s.reg n) sz (sz.signExtend raw) d ∧ ∀ k : Word → Word → State → Result, s.macOperands m n sz k =
      (s.operandRead n sz d).load (if m = n then s.reg n + BitVec.ofNat 32 sz.bytes else s.reg m) sz
        fun y u => k raw y (u.setReg m (u.postInc m sz)) := by
  obtain ⟨raw, hreads, hload⟩ := State.load_readable h
  refine ⟨raw, hreads, fun k => ?_⟩
  rw [← State.reg_operandRead s m n sz d]
  exact hload _

/-- A multiply-accumulate is settled by what follows the two reads: an update of MACH and MACL alone. -/
theorem Accumulates.of_macOperands {post : Word → Word → State → Prop} {k : Word → Word → State → Result}
    (hi : exec i s = s.macOperands m n sz k)
    (hk : ∀ x y u, Frame { s with draws := u.draws } u [m, n] [] → u.sr = s.sr → ∃ v : State,
      k x y u = v.done ∧ v = { u with mach := v.mach, macl := v.macl } ∧
      post (sz.signExtend x) (sz.signExtend y) v.advance) :
    Accumulates i s m n sz post := by
  refine ⟨fun h1 h2 => ?_, fun h => hi.trans (State.load_misaccess h _), fun d h1 h2 => ?_,
    fun h => hi.trans (State.load_unmapped h _), fun h1 h2 => ?_⟩
  · obtain ⟨d, hd⟩ := State.exists_readable h1
    obtain ⟨e, he⟩ := State.exists_readable h2
    obtain ⟨x, hx, hfirst⟩ := State.macOperands_of_first (m := m) hd
    obtain ⟨y, hy, hsecond⟩ := State.load_readable (s := s.operandRead n sz d) he
    have hframe : Frame { s with draws := s.draws + d + e } ((s.operandRead n sz d).operandRead m sz e) [m, n] [] :=
      ((Frame.refl s [m, n] []).operandRead (by simp) sz d).operandRead (by simp) sz e
    obtain ⟨v, hv, hmac, hpost⟩ := hk x y ((s.operandRead n sz d).operandRead m sz e) hframe rfl
    refine ⟨sz.signExtend x, sz.signExtend y, d, e, v.advance, hx, hy,
      (hi.trans ((hfirst k).trans (hsecond _))).trans hv, hpost, ?_, fun hne => ?_, ?_, ?_, ?_⟩
    all_goals rw [hmac]
    · exact (State.reg_setReg_self _ m _).trans (congrArg (· + _) (State.reg_operandRead s m n sz d))
    · exact (State.reg_setReg_ne _ m n _ (Ne.symm hne)).trans (State.reg_setReg_self _ n _)
    · rfl
    · exact (hframe.accumulator v.mach v.macl).advance
    · exact .of_advance rfl rfl
  · obtain ⟨x, -, hfirst⟩ := State.macOperands_of_first (m := m) h1
    exact hi.trans ((hfirst k).trans (State.load_misaccess (s := s.operandRead n sz d) h2 _))
  · obtain ⟨d, hd⟩ := State.exists_readable h1
    obtain ⟨x, -, hfirst⟩ := State.macOperands_of_first (m := m) hd
    exact hi.trans ((hfirst k).trans (State.load_unmapped (s := s.operandRead n sz d) h2 _))

end

/-! ### The statements -/

/-- Settles O26: no product overflows where it goes, but that of MUL.L, which is cut to 32 bits. -/
theorem products : Obligations.Products := by
  intro m n s
  refine ⟨⟨.of_codeNM rfl rfl, fun h => State.onSH7600_of_sh7000 h _, fun h => ?_⟩,
    ⟨.of_codeNM rfl rfl, fun h => State.onSH7600_of_sh7000 h _, fun h => ?_⟩,
    ⟨.of_codeNM rfl rfl, fun h => State.onSH7600_of_sh7000 h _, fun h => ?_⟩,
    ⟨.of_codeNM rfl rfl, ?_⟩, ⟨.of_codeNM rfl rfl, ?_⟩⟩
  · exact ⟨_, State.onSH7600_of_sh7600 h _, (congrArg BitVec.toInt (State.mach_append_macl_setMac h _)).trans
      (toInt_ofInt_mul (by decide) _ _), s.advance_accumulator _ _⟩
  · exact ⟨_, State.onSH7600_of_sh7600 h _, (congrArg BitVec.toNat (State.mach_append_macl_setMac h _)).trans
      (toNat_ofNat_mul _ _), s.advance_accumulator _ _⟩
  · exact ⟨_, State.onSH7600_of_sh7600 h _, BitVec.toNat_mul _ _, s.advance_accumulator _ _⟩
  · refine ⟨_, rfl, ?_, s.advance_accumulator _ _⟩
    simp only [BitVec.truncate_eq_setWidth, BitVec.setWidth_eq_extractLsb' (by decide : 16 ≤ 32)]
    exact toInt_ofInt_mul (by decide) _ _
  · refine ⟨_, rfl, ?_, s.advance_accumulator _ _⟩
    simp only [BitVec.truncate_eq_setWidth, BitVec.setWidth_eq_extractLsb' (by decide : 16 ≤ 32)]
    exact toNat_ofNat_mul _ _

/-- Settles O27: on the SH7600 the accumulator is MACH:MACL whole, and the sum is limited or wraps as S says. -/
theorem multiplyAccumulateLong : Obligations.MultiplyAccumulateLong := by
  intro m n s
  refine ⟨.of_codeNM rfl rfl, fun h => State.onSH7600_of_sh7000 h _, fun h =>
    .of_macOperands (State.onSH7600_of_sh7600 h _) fun x y u hframe hsr => ⟨_, rfl, rfl, ?_⟩⟩
  have hser : u.params.series = .sh7600 := (congrArg Params.series hframe.params).trans h
  have hacc : u.mac = s.mach ++ s.macl := by
    rw [State.mac_of_held (State.machHeld_of_sh7600 hser), hframe.mach, hframe.macl]
  have hsum : (u.setMac (macLongSum u.sr.s u.mac x y)).mach ++ (u.setMac (macLongSum u.sr.s u.mac x y)).macl =
      macLongSum s.sr.s (s.mach ++ s.macl) x y := by
    rw [State.mach_append_macl_setMac hser, hacc, hsr]
  cases hs : s.sr.s with
  | true => exact (congrArg BitVec.toInt (hs ▸ hsum)).trans (macLongSum_limited _ x y)
  | false => exact (hs ▸ hsum).trans (macLongSum_wraps _ x y)

/-- Settles O28: with S set MACL is limited and bit 0 of MACH records it; with S clear the sum is that of the series. -/
theorem multiplyAccumulateWord : Obligations.MultiplyAccumulateWord := by
  intro m n s hheld
  refine ⟨.of_codeNM rfl rfl, .of_macOperands rfl fun x y u hframe hsr => ⟨_, rfl, State.macWordSum_eq _ _, ?_⟩⟩
  have hparams : u.params = s.params := hframe.params
  have hmach : u.mach = s.mach := hframe.mach
  have hmacl : u.macl = s.macl := hframe.macl
  have hheld' : u.machHeld := by rwa [State.machHeld, hparams, hmach]
  have hx (v : Word) : (Size.word.signExtend v).toInt = (v.extractLsb' 0 16).toInt :=
    BitVec.toInt_signExtend_of_le (by decide)
  simp only [hx, ← hmach, ← hmacl, ← hsr, ← hparams]
  cases hs : u.sr.s with
  | true => exact ⟨State.macWordSum_limited_macl _ _ hs, State.macWordSum_limited_mach _ _ hs hheld'⟩
  | false =>
    cases hser : u.params.series with
    | sh7600 => exact State.macWordSum_sh7600 _ _ hs hser
    | sh7000 => exact State.macWordSum_sh7000 _ _ hs hser hheld'

end Sys2Proof.Machine
end

section
/-! PROOFS. Logic operations (43_logic.md): the byte an access reads and the byte it writes; a read-modify-write of one
byte, said once for the three forms at @(R0,GBR) and for TAS.B; then the statements, instruction by instruction. -/

namespace Sys2Proof.Machine

/-! ### The byte of an access -/

/-- The low byte of a byte read and sign-extended is the byte read (20_memory.md R69). -/
theorem truncate_signExtend_byte (raw : Word) : (Size.byte.signExtend raw).truncate 8 = raw.extractLsb' 0 8 := by
  rw [BitVec.truncate_eq_setWidth, BitVec.setWidth_eq_extractLsb' (by decide)]
  exact extractLsb'_signExtend _ (by decide)

theorem State.extractLsb'_valueAt_byte (s : State) (a : Word) : (s.valueAt a .byte).extractLsb' 0 8 = s.byteAt a :=
  extractLsb'_zeroExtend _ (by decide)

theorem State.byteAt_putValue_byte (s : State) (a v : Word) : (s.putValue a v .byte).byteAt a = v.extractLsb' 0 8 := by
  simp [State.putValue, State.byteAt_setByte, byteOf]

/-- TAS.B sets bit 7 of the longword it read: in the byte it writes that is bit 7 of the byte read (43_logic.md R266). -/
theorem extractLsb'_or_0x80 (v : Word) : (v ||| 0x80).extractLsb' 0 8 = v.extractLsb' 0 8 ||| 0x80 := by
  rw [BitVec.extractLsb'_or]; rfl

/-! ### A read-modify-write of one byte -/

/-- The state between the read and the write: `d` free values drawn, and SR as the instruction leaves it. -/
def State.byteRead (s : State) (d : Nat) (sr : StatusReg) : State := { s with sr := sr, draws := s.draws + d }

theorem Frame.byteRead {s t : State} {regs : List Reg} {bytes : List Word} (h : Frame s t regs bytes) (d : Nat)
    (sr : StatusReg) : Frame { s with draws := s.draws + d } (t.byteRead d sr) regs bytes :=
  ⟨h.regs, h.gbr, h.vbr, h.mach, h.macl, h.pr, h.mode, h.memory, h.params, h.inputs, h.sby, h.deviceWrites,
    congrArg (· + d) h.draws⟩

section
variable {i : Instr} {s : State} {ea : Word} {f : Byte → Byte}

/-- A read-modify-write is settled by what follows its read: an update of SR, and a store to the same address whose low
byte is `f` of the byte read. The write meets the kind of address that the read met. -/
theorem ModifiesByte.of_load_store {sr : Byte → StatusReg} {k : Word → State → Result}
    (hi : exec i s = s.load ea .byte k)
    (hk : ∀ raw d, ∃ v, v.extractLsb' 0 8 = f (raw.extractLsb' 0 8) ∧ k raw (s.setDraws (s.draws + d)) =
      (s.byteRead d (sr (raw.extractLsb' 0 8))).store ea .byte v State.done) :
    ModifiesByte i s ea f sr := by
  refine ⟨fun h => ?_, fun h => ?_, fun h => hi.trans (State.load_unmapped h k)⟩
  · obtain ⟨v, hv, hstore⟩ := hk (s.valueAt ea .byte) 0
    rw [State.extractLsb'_valueAt_byte] at hv hstore
    have hwrite g := State.store_ordinary (s := s.byteRead 0 g) h v State.done
    exact ⟨_, (hi.trans (State.load_ordinary h k)).trans (hstore.trans (hwrite _)),
      (State.byteAt_putValue_byte _ ea v).trans hv, State.putValue_sr _ ea v _,
      (((Frame.refl s [] [ea]).byteRead 0 _).putValue (sz := .byte) (fun _ hb => hb) v).advance,
      .of_advance (State.putValue_pc _ ea v _) (State.putValue_slot _ ea v _)⟩
  · obtain ⟨v, hv, hstore⟩ := hk (Size.byte.cut (Config.deviceRead s.draws)) 1
    have hwrite g := State.store_device (s := s.byteRead 1 g) h v State.done
    refine ⟨_, _, (hi.trans (State.load_device h k)).trans (hstore.trans (hwrite _)), rfl, ?_, .of_advance rfl rfl⟩
    rw [← hv]
    exact (((Frame.refl s [] []).byteRead 1 _).deviceWrite ea v .byte).advance

/-- AND.B, OR.B and XOR.B leave SR (43_logic.md R263, R269, R276). -/
theorem ModifiesByte.of_modifyByte (hi : exec i s = s.modifyByte f) :
    ModifiesByte i s (s.gbr + s.reg 0) f fun _ => s.sr :=
  .of_load_store hi fun _ _ => ⟨_, extractLsb'_zeroExtend _ (by decide), rfl⟩

end

/-! ### The statements -/

/-- Settles O29: each form completes with one register written; NOT is the exclusive or with a longword of ones. -/
theorem logicOnRegisters : Obligations.LogicOnRegisters := by
  intro m n imm s
  refine ⟨⟨.of_codeNM rfl rfl, .of_setReg rfl⟩, ⟨.of_codeImm rfl rfl, .of_setReg rfl⟩, ⟨.of_codeNM rfl rfl, ?_⟩,
    ⟨.of_codeNM rfl rfl, .of_setReg rfl⟩, ⟨.of_codeImm rfl rfl, .of_setReg rfl⟩,
    ⟨.of_codeNM rfl rfl, .of_setReg rfl⟩, ⟨.of_codeImm rfl rfl, .of_setReg rfl⟩⟩
  have hnot : s.reg m ^^^ 0xFFFFFFFF = ~~~ s.reg m := BitVec.xor_allOnes
  rw [hnot]
  exact .of_setReg rfl

/-- Settles O30: TST writes T alone; TST.B is a load whose value decides T and goes to no register. -/
theorem tests : Obligations.Tests := by
  intro m n imm s
  refine ⟨⟨.of_codeNM rfl rfl, .of_setT_iff rfl beq_iff_eq⟩, ⟨.of_codeImm rfl rfl, .of_setT_iff rfl beq_iff_eq⟩,
    ⟨.of_codeImm rfl rfl, .of_load rfl fun raw d => ?_⟩⟩
  simp only [truncate_signExtend_byte]
  exact ⟨_, rfl, trivial, rfl, (Frame.refl _ [] []).advance, .of_advance rfl rfl⟩

/-- Settles O31: AND.B, OR.B and XOR.B share one form; TAS.B reads and writes the byte in the same way and puts in T
whether the byte read was 0. -/
theorem byteReadModifyWrite : Obligations.ByteReadModifyWrite := fun _ _ _ =>
  ⟨⟨.of_codeImm rfl rfl, .of_modifyByte rfl⟩, ⟨.of_codeImm rfl rfl, .of_modifyByte rfl⟩,
    ⟨.of_codeImm rfl rfl, .of_modifyByte rfl⟩,
    ⟨.of_codeN rfl rfl, .of_load_store rfl fun raw _ => ⟨raw ||| 0x80, extractLsb'_or_0x80 raw, rfl⟩⟩⟩

end Sys2Proof.Machine
end

section
/-! PROOFS. Shifts and rotates (44_shift.md): the bit shifted out and the bit that enters as numbers; the shifts as
products and quotients by powers of two; then the statements, instruction by instruction. -/

namespace Sys2Proof.Machine

/-! ### The bit shifted out -/

theorem msb_eq_high (x : Word) : x.msb = decide (2 ^ 31 ≤ x.toNat) := BitVec.msb_eq_decide x

theorem getLsbD_zero_eq_low (x : Word) : x.getLsbD 0 = decide (x.toNat % 2 = 1) := Nat.testBit_zero _

/-! ### Shifts as products and quotients (R285-R294) -/

theorem shiftLeft_eq_ofNat (x : Word) (k : Nat) : x <<< k = BitVec.ofNat 32 (x.toNat * 2 ^ k) := by
  rw [← Nat.shiftLeft_eq]
  rfl

theorem ushiftRight_eq_ofNat (x : Word) (k : Nat) : x >>> k = BitVec.ofNat 32 (x.toNat / 2 ^ k) := by
  rw [← Nat.shiftRight_eq_div_pow, ← BitVec.toNat_ushiftRight, BitVec.ofNat_toNat, BitVec.setWidth_eq]

theorem shiftLeft_one_eq_ofNat (x : Word) : x <<< 1 = BitVec.ofNat 32 (2 * x.toNat) := by
  rw [shiftLeft_eq_ofNat, pow_one, Nat.mul_comm]

/-! ### Shifts by one bit with a bit that enters (R281-R284) -/

theorem shiftLeft_or_bitWord_eq_ofNat (x : Word) (c : Bool) :
    (x <<< 1) ||| bitWord c = BitVec.ofNat 32 (2 * x.toNat + bitNat c) :=
  BitVec.eq_of_toNat_eq (toNat_shifted x c)

/-- The bit that enters at bit 31 meets the 31 bits that stay: nothing is lost. -/
theorem toNat_shiftedRight (x : Word) (c : Bool) :
    ((x >>> 1) ||| (bitWord c <<< 31)).toNat = x.toNat / 2 + 2 ^ 31 * bitNat c := by
  have hhalf : x.toNat / 2 < 2 ^ 31 := by omega
  have hbit : (bitWord c <<< 31).toNat = bitNat c <<< 31 := by revert c; decide
  calc ((x >>> 1) ||| (bitWord c <<< 31)).toNat
      = bitNat c <<< 31 ||| x.toNat / 2 := by
        rw [BitVec.toNat_or, BitVec.toNat_ushiftRight, hbit, Nat.or_comm, Nat.shiftRight_eq_div_pow, pow_one]
    _ = bitNat c <<< 31 + x.toNat / 2 := (Nat.shiftLeft_add_eq_or_of_lt hhalf _).symm
    _ = x.toNat / 2 + 2 ^ 31 * bitNat c := by rw [Nat.shiftLeft_eq, Nat.mul_comm, Nat.add_comm]

theorem ushiftRight_or_bitWord_eq_ofNat (x : Word) (c : Bool) :
    (x >>> 1) ||| (bitWord c <<< 31) = BitVec.ofNat 32 (x.toNat / 2 + 2 ^ 31 * bitNat c) := by
  rw [← toNat_shiftedRight, BitVec.ofNat_toNat, BitVec.setWidth_eq]

/-- The value and the bit shifted out are the old value below the bit that enters, read as 33 bits. -/
theorem shiftedRight_exact (x : Word) (c : Bool) :
    2 * ((x >>> 1) ||| (bitWord c <<< 31)).toNat + bitNat (x.getLsbD 0) = x.toNat + 2 ^ 32 * bitNat c := by
  have hlow : bitNat (x.getLsbD 0) = x.toNat % 2 := by
    rw [getLsbD_zero_eq_low]
    rcases Nat.mod_two_eq_zero_or_one x.toNat with h | h <;> rw [h] <;> rfl
  rw [toNat_shiftedRight, hlow]
  omega

/-! ### The arithmetic shift right (R286) -/

theorem and_signBit (x : Word) : x &&& (0x80000000 : Word) = bitWord x.msb <<< 31 := by
  have hbit : x &&& (0x80000000 : Word) = if x.msb then BitVec.twoPow 32 31 else 0 := BitVec.and_twoPow x 31
  rw [hbit]
  cases x.msb <;> rfl

/-- The signed value counts the sign bit negative. -/
theorem toInt_eq_sub_msb (x : Word) : x.toInt = x.toNat - 2 ^ 32 * bitNat x.msb := by
  rw [BitVec.toInt_eq_msb_cond]
  cases x.msb <;> simp

/-- The sign bit kept in its place is the floor of half the signed value. -/
theorem arithmeticHalf_eq_ofInt (x : Word) : (x >>> 1) ||| (x &&& 0x80000000) = BitVec.ofInt 32 (x.toInt / 2) := by
  have hsigned := toInt_eq_sub_msb x
  have hbit := bitNat_le_one x.msb
  refine BitVec.eq_of_toNat_eq ?_
  rw [and_signBit, toNat_shiftedRight, BitVec.toNat_ofInt]
  omega

/-! ### One register written, alone or with T -/

section
variable {i : Instr} {s : State} {n : Reg}

theorem SetsRegister.of_shiftLeft {k : Nat} (h : exec i s = (s.setReg n (s.reg n <<< k)).done) :
    SetsRegister i s n (BitVec.ofNat 32 ((s.reg n).toNat * 2 ^ k)) :=
  shiftLeft_eq_ofNat (s.reg n) k ▸ .of_setReg h

theorem SetsRegister.of_ushiftRight {k : Nat} (h : exec i s = (s.setReg n (s.reg n >>> k)).done) :
    SetsRegister i s n (BitVec.ofNat 32 ((s.reg n).toNat / 2 ^ k)) :=
  ushiftRight_eq_ofNat (s.reg n) k ▸ .of_setReg h

/-- A shift to the left puts bit 31 in T. -/
theorem SetsRegisterAndT.of_high {v w : Word} (h : exec i s = ((s.setReg n v).setT (s.reg n).msb).done) (hv : v = w) :
    SetsRegisterAndT i s n w (decide (2 ^ 31 ≤ (s.reg n).toNat)) :=
  hv ▸ msb_eq_high (s.reg n) ▸ .of_setReg_setT h

/-- A shift to the right puts bit 0 in T. -/
theorem SetsRegisterAndT.of_low {v w : Word} (h : exec i s = ((s.setReg n v).setT ((s.reg n).getLsbD 0)).done)
    (hv : v = w) : SetsRegisterAndT i s n w (decide ((s.reg n).toNat % 2 = 1)) :=
  hv ▸ getLsbD_zero_eq_low (s.reg n) ▸ .of_setReg_setT h

end

/-! ### The statements -/

/-- Settles O32: without T the bit shifted out enters at the other end; with T the old T does, and no bit is lost. -/
theorem rotates : Obligations.Rotates := by
  intro n s
  refine ⟨⟨.of_codeN rfl rfl, .of_high rfl ?_⟩, ⟨.of_codeN rfl rfl, .of_low rfl ?_⟩, ⟨.of_codeN rfl rfl, ?_⟩,
    ⟨.of_codeN rfl rfl, ?_⟩⟩
  · rw [← msb_eq_high]
    exact shiftLeft_or_bitWord_eq_ofNat (s.reg n) _
  · rw [← getLsbD_zero_eq_low]
    exact ushiftRight_or_bitWord_eq_ofNat (s.reg n) _
  · exact (SetsRegisterAndT.of_setReg_setT rfl).related (fun v b => v.toNat + 2 ^ 32 * bitNat b = _)
      (shifted_exact (s.reg n) s.sr.t)
  · exact (SetsRegisterAndT.of_setReg_setT rfl).related (fun v b => 2 * v.toNat + bitNat b = _)
      (shiftedRight_exact (s.reg n) s.sr.t)

/-- Settles O33: a shift by one bit writes T with the register, a shift by 2, 8 or 16 the register alone. -/
theorem shifts : Obligations.Shifts := fun n s =>
  ⟨⟨.of_codeN rfl rfl, .of_high rfl (shiftLeft_one_eq_ofNat (s.reg n))⟩,
    ⟨.of_codeN rfl rfl, .of_low rfl (arithmeticHalf_eq_ofInt (s.reg n))⟩,
    ⟨.of_codeN rfl rfl, .of_high rfl (shiftLeft_one_eq_ofNat (s.reg n))⟩,
    ⟨.of_codeN rfl rfl, .of_low rfl (ushiftRight_eq_ofNat (s.reg n) 1)⟩,
    ⟨.of_codeN rfl rfl, .of_shiftLeft rfl⟩, ⟨.of_codeN rfl rfl, .of_shiftLeft rfl⟩,
    ⟨.of_codeN rfl rfl, .of_shiftLeft rfl⟩, ⟨.of_codeN rfl rfl, .of_ushiftRight rfl⟩,
    ⟨.of_codeN rfl rfl, .of_ushiftRight rfl⟩, ⟨.of_codeN rfl rfl, .of_ushiftRight rfl⟩⟩

end Sys2Proof.Machine
end

section
/-! PROOFS. The thirteen instructions that rewrite the PC (45_branch.md R301): all of them stand behind one guard, which
decides what they do in a delay slot and directly after an untaken BF/S or BT/S. -/

namespace Sys2Proof.Machine

/-! ### The guard -/

theorem State.notInSlot_of_slot {s : State} {d : Word} (h : s.slot = some d) (k : Result) :
    s.notInSlot k = s.slotIllegal d := by
  simp only [State.notInSlot, h]

theorem State.notInSlot_of_untaken {s : State} (hslot : s.slot = none) (huntaken : s.afterUntaken = true) (k : Result) :
    s.notInSlot k = .refused .disputedAfterUntaken := by
  simp [State.notInSlot, hslot, huntaken]

theorem State.notInSlot_of_mayBranch {s : State} (h : s.mayBranch) (k : Result) : s.notInSlot k = k := by
  obtain ⟨hslot, huntaken⟩ := h
  simp [State.notInSlot, hslot, huntaken]

/-- An illegal code and an instruction that may not stand in a delay slot are guarded alike. -/
theorem State.illegalCode_eq_notInSlot (s : State) : s.illegalCode = s.notInSlot s.generalIllegal := rfl

/-- On the SH7000 the guard of the SH7600 instructions comes first, and decides the same. -/
theorem State.exists_onSH7600_notInSlot (s : State) (k : Result) :
    ∃ k', s.onSH7600 (s.notInSlot k) = s.notInSlot k' := by
  cases h : s.params.series with
  | sh7600 => exact ⟨k, State.onSH7600_of_sh7600 h _⟩
  | sh7000 => exact ⟨s.generalIllegal, (State.onSH7600_of_sh7000 h _).trans s.illegalCode_eq_notInSlot⟩

/-! ### The thirteen behind it -/

theorem exec_of_rewritesPc {i : Instr} (h : i.rewritesPc = true) (s : State) : ∃ k, exec i s = s.notInSlot k := by
  cases i with
  | bf | bt | bra | bsr | jmp | jsr | rts | rte | trapa => exact ⟨_, rfl⟩
  | bfS | btS | braf | bsrf => exact s.exists_onSH7600_notInSlot _
  | _ => cases h

theorem NotInSlot.of_rewritesPc {i : Instr} {s : State} (h : i.rewritesPc = true) : NotInSlot i s := fun _ hslot => by
  obtain ⟨k, hk⟩ := exec_of_rewritesPc h s
  exact hk.trans (State.notInSlot_of_slot hslot k)

/-! ### The statements -/

/-- Settles O37: the guard takes the exception before the instruction has done anything. -/
theorem slotIllegalInstructions : Obligations.SlotIllegalInstructions := by
  intro i s d h hslot hs
  rw [NotInSlot.of_rewritesPc h d hslot]
  exact State.enterException_entered d none hs

/-- Settles O38: the guard refuses. -/
theorem disputedInstructionsAreRefused : Obligations.DisputedInstructionsAreRefused := by
  intro i s h hslot huntaken
  obtain ⟨k, hk⟩ := exec_of_rewritesPc h s
  exact hk.trans (State.notInSlot_of_untaken hslot huntaken k)

end Sys2Proof.Machine
end

section
/-! PROOFS. Branches (45_branch.md): the codes with a 12-bit displacement, the destinations outside a delay slot, the
three ways a branch completes; then the statements, instruction by instruction. -/

namespace Sys2Proof.Machine

/-! ### Codes with a 12-bit displacement -/

theorem zeroExtend_field12 (b c d : Nibble) : (field12 b c d).zeroExtend 16 = ofNibbles 0 b c d := by
  refine BitVec.eq_of_getLsbD_eq fun k hk => ?_
  simp only [field12, ofNibbles, BitVec.zeroExtend, BitVec.getLsbD_setWidth, BitVec.getLsbD_append]
  grind

theorem field12_at_bit0 (v : BitVec 12) :
    v.zeroExtend 16 = ofNibbles 0 (nibble12 2 v) (nibble12 1 v) (nibble12 0 v) := by
  simpa using zeroExtend_field12 (nibble12 2 v) (nibble12 1 v) (nibble12 0 v)

theorem CodeOf.of_codeDisp12 {base : Code} {i : Instr} {a : Nibble} {v : BitVec 12}
    (h : encode i = ofNibbles a (nibble12 2 v) (nibble12 1 v) (nibble12 0 v)) (hb : base = ofNibbles a 0 0 0) :
    CodeOf (codeDisp12 base v) i :=
  .of_encode (by simp only [h, hb, codeDisp12, field12_at_bit0, or_ofNibbles]; simp)

/-! ### Where control goes outside a delay slot -/

theorem State.nextPc_of_mayBranch {s : State} (h : s.mayBranch) : s.nextPc = s.pc + 2 := by
  simp only [State.nextPc, h.1]

theorem State.pcValue_of_mayBranch {s : State} (h : s.mayBranch) : s.pcValue = s.pc + 4 := by
  simp only [State.pcValue, h.1]

theorem State.target8_of_mayBranch {s : State} (h : s.mayBranch) (disp : BitVec 8) :
    s.target8 disp = s.pc + 4 + disp.signExtend 32 * 2 :=
  congrArg (· + _) (State.pcValue_of_mayBranch h)

theorem State.target12_of_mayBranch {s : State} (h : s.mayBranch) (disp : BitVec 12) :
    s.target12 disp = s.pc + 4 + disp.signExtend 32 * 2 :=
  congrArg (· + _) (State.pcValue_of_mayBranch h)

theorem State.targetReg_of_mayBranch {s : State} (h : s.mayBranch) (n : Reg) : s.targetReg n = s.pc + 4 + s.reg n :=
  congrArg (· + _) (State.pcValue_of_mayBranch h)

theorem State.setPr_self (s : State) : s.setPr s.pr = s := rfl

/-! ### How a branch completes -/

section
variable {i : Instr} {s : State} {target : Word}

theorem Jumps.of_branch (hi : exec i s = .next (s.branch target)) : Jumps i s target :=
  ⟨_, hi, rfl, rfl, rfl, rfl, rfl, (Frame.refl s [] []).branch target⟩

/-- The write of PR precedes the branch; a branch that is no subroutine call writes PR with what it holds. -/
theorem JumpsDelayed.of_delayedBranch {pr : Word} (hi : exec i s = .next ((s.setPr pr).delayedBranch target)) :
    JumpsDelayed i s target pr :=
  ⟨_, hi, rfl, rfl, rfl, rfl, rfl, (Frame.refl (s.setPr pr) [] []).delayedBranch target⟩

theorem FallsThrough.of_advance (hs : s.mayBranch) (hi : exec i s = .next s.advance) : FallsThrough i s false :=
  ⟨_, hi, State.nextPc_of_mayBranch hs, rfl, rfl, rfl, rfl, (Frame.refl s [] []).advance⟩

theorem FallsThrough.of_advanceUntaken (hs : s.mayBranch) (hi : exec i s = .next s.advanceUntaken) :
    FallsThrough i s true :=
  ⟨_, hi, State.nextPc_of_mayBranch hs, rfl, rfl, rfl, rfl, (Frame.refl s [] []).advanceUntaken⟩

/-- Behind the guard of the SH7600 instructions and that of a delay slot. -/
theorem State.onSH7600_notInSlot (hs : s.mayBranch) (h : s.params.series = .sh7600) (k : Result) :
    s.onSH7600 (s.notInSlot k) = k :=
  (State.onSH7600_of_sh7600 h _).trans (State.notInSlot_of_mayBranch hs k)

end

/-! ### The conditional branches, where they run -/

section
variable {s : State} (disp : BitVec 8)

theorem exec_bf (hs : s.mayBranch) : exec (.bf disp) s =
    .next (if s.sr.t then s.advance else s.branch (s.pc + 4 + disp.signExtend 32 * 2)) := by
  rw [← State.target8_of_mayBranch hs]
  exact State.notInSlot_of_mayBranch hs _

theorem exec_bt (hs : s.mayBranch) : exec (.bt disp) s =
    .next (if s.sr.t then s.branch (s.pc + 4 + disp.signExtend 32 * 2) else s.advance) := by
  rw [← State.target8_of_mayBranch hs]
  exact State.notInSlot_of_mayBranch hs _

theorem exec_bfS (hs : s.mayBranch) (h : s.params.series = .sh7600) : exec (.bfS disp) s =
    .next (if s.sr.t then s.advanceUntaken else s.delayedBranch (s.pc + 4 + disp.signExtend 32 * 2)) := by
  rw [← State.target8_of_mayBranch hs]
  exact State.onSH7600_notInSlot hs h _

theorem exec_btS (hs : s.mayBranch) (h : s.params.series = .sh7600) : exec (.btS disp) s =
    .next (if s.sr.t then s.delayedBranch (s.pc + 4 + disp.signExtend 32 * 2) else s.advanceUntaken) := by
  rw [← State.target8_of_mayBranch hs]
  exact State.onSH7600_notInSlot hs h _

end

/-! ### The statements -/

/-- Settles O34: T chooses between the branch and the next instruction. -/
theorem conditionalBranches : Obligations.ConditionalBranches := by
  intro disp s
  refine ⟨⟨.of_codeImm rfl rfl, .of_rewritesPc rfl, fun hs ht => .of_branch ?_, fun hs ht => .of_advance hs ?_⟩,
    ⟨.of_codeImm rfl rfl, .of_rewritesPc rfl, fun hs ht => .of_branch ?_, fun hs ht => .of_advance hs ?_⟩⟩
  · simp [exec_bf disp hs, ht]
  · simp [exec_bf disp hs, ht]
  · simp [exec_bt disp hs, ht]
  · simp [exec_bt disp hs, ht]

/-- Settles O35: T chooses between the delayed branch, which leaves PR, and the untaken completion. -/
theorem delayedConditionalBranches : Obligations.DelayedConditionalBranches := by
  intro disp s
  refine ⟨⟨.of_codeImm rfl rfl, .of_rewritesPc rfl, fun h => State.onSH7600_of_sh7000 h _, fun hs h =>
      ⟨fun ht => .of_delayedBranch ?_, fun ht => .of_advanceUntaken hs ?_⟩⟩,
    ⟨.of_codeImm rfl rfl, .of_rewritesPc rfl, fun h => State.onSH7600_of_sh7000 h _, fun hs h =>
      ⟨fun ht => .of_delayedBranch ?_, fun ht => .of_advanceUntaken hs ?_⟩⟩⟩
  · simp [exec_bfS disp hs h, ht, State.setPr_self]
  · simp [exec_bfS disp hs h, ht]
  · simp [exec_btS disp hs h, ht, State.setPr_self]
  · simp [exec_btS disp hs h, ht]

/-- Settles O36: behind its guards each is one delayed branch; the destination is that of the state before. -/
theorem unconditionalBranches : Obligations.UnconditionalBranches := by
  intro n disp s
  refine ⟨⟨.of_codeDisp12 rfl rfl, .of_rewritesPc rfl, fun hs => ?_⟩,
    ⟨.of_codeN rfl rfl, .of_rewritesPc rfl, fun h => State.onSH7600_of_sh7000 h _, fun hs h => ?_⟩,
    ⟨.of_codeDisp12 rfl rfl, .of_rewritesPc rfl, fun hs => ?_⟩,
    ⟨.of_codeN rfl rfl, .of_rewritesPc rfl, fun h => State.onSH7600_of_sh7000 h _, fun hs h => ?_⟩,
    ⟨.of_codeN rfl rfl, .of_rewritesPc rfl, fun hs => .of_delayedBranch (State.notInSlot_of_mayBranch hs _)⟩,
    ⟨.of_codeN rfl rfl, .of_rewritesPc rfl, fun hs => .of_delayedBranch (State.notInSlot_of_mayBranch hs _)⟩,
    ⟨.of_encode rfl, .of_rewritesPc rfl, fun hs => .of_delayedBranch (State.notInSlot_of_mayBranch hs _)⟩⟩
  · rw [← State.target12_of_mayBranch hs]
    exact .of_delayedBranch (State.notInSlot_of_mayBranch hs _)
  · rw [← State.targetReg_of_mayBranch hs]
    exact .of_delayedBranch (State.onSH7600_notInSlot hs h _)
  · rw [← State.target12_of_mayBranch hs]
    exact .of_delayedBranch (State.notInSlot_of_mayBranch hs _)
  · rw [← State.targetReg_of_mayBranch hs]
    exact .of_delayedBranch (State.onSH7600_notInSlot hs h _)

end Sys2Proof.Machine
end

section
/-! PROOFS. DMA address errors and interrupts at a boundary (60_exceptions.md R403, R407, R410-R412, R435): which event
is taken, and the step that takes it. -/

namespace Sys2Proof.Machine

/-! ### The event -/

theorem State.testMade_of_mayAccept {s : State} (h : s.mayAccept) : s.testMade = true := by
  obtain ⟨hslot, hinhibit, -⟩ := h
  simp [State.testMade, hslot, hinhibit]

theorem State.asyncEvent_of_dmaError {s : State} {e : EnvInput} (hs : s.mayAccept) (hd : e.dmaError = true) :
    s.asyncEvent e = some s.dmaAddressError := by
  simp [State.asyncEvent, State.testMade_of_mayAccept hs, hd]

theorem State.asyncEvent_of_highest {s : State} {e : EnvInput} {q : Request} (hs : s.mayAccept)
    (hd : e.dmaError = false) (hq : highestRequest e.requests = some q) (hl : s.sr.i.toNat < q.level) :
    s.asyncEvent e = some (s.acceptInterrupt q) := by
  simp [State.asyncEvent, State.testMade_of_mayAccept hs, hd, hq, Request.passes, hl]

/-! ### The step -/

section
variable {s : State} {e : EnvInput} {rest : List EnvInput}

/-- Consuming the environment's entry leaves all that the acceptance of an event looks at. -/
theorem State.mayAccept.after (h : s.mayAccept) (e : EnvInput) (rest : List EnvInput) : (s.after e rest).mayAccept := h

theorem State.canEnter.after {v : BitVec 8} (h : s.canEnter v) (e : EnvInput) (rest : List EnvInput) :
    (s.after e rest).canEnter v :=
  ⟨h.savedSr, h.savedPc, h.vector⟩

/-- In program execution and in sleep mode alike the event is the step, where nothing comes before it. -/
theorem step_of_asyncEvent {r : Result} (hm : s.mode = .programExecution ∨ s.mode = .sleep) (hs : s.mayAccept)
    (hi : s.inputs = e :: rest) (hr : e.reset = none) (hb : e.busRequest = false)
    (hevent : (s.after e rest).asyncEvent e = some r) : step s = r := by
  refine step_of_boundary_done ?_
  rcases hm with hm | hm
  · have hdisputed : (s.after e rest).nextDisputed = false := State.mayAccept_nextDisputed (hs.after e rest)
    rw [State.boundary_of_programExecution hi hr hm]
    simp [State.programBoundary, hb, hevent, hdisputed]
  · have hm' : (s.after e rest).mode = .sleep := hm
    refine State.boundary_of_otherMode hi hr ?_
    simp [State.otherMode, hm', hb, hevent]

end

/-! ### The statements -/

/-- Settles O52: the event is the DMA address error, whatever is requested, and the step takes it. -/
theorem dmaAddressErrorComesFirst : Obligations.DmaAddressErrorComesFirst := by
  intro s e rest hm hs hi hr hb hd henter
  rw [step_of_asyncEvent hm hs hi hr hb (State.asyncEvent_of_dmaError (hs.after e rest) hd)]
  exact State.enterException_entered s.pc none (henter.after e rest)

/-- Settles O53: the first request of the highest level is the one the event accepts, and its mask is the new one. -/
theorem interruptAcceptance : Obligations.InterruptAcceptance := by
  intro s e rest q before later hm hs hi hr hb hd hq hbefore hlater hlevel henter
  have hhighest : highestRequest e.requests = some q := hq ▸ highestRequest_eq hbefore hlater
  rw [step_of_asyncEvent hm hs hi hr hb (State.asyncEvent_of_highest (hs.after e rest) hd hhighest hlevel)]
  exact State.enterException_entered s.pc (some q.newMask) (henter.after e rest)

end Sys2Proof.Machine
end

section
/-! PROOFS. System control (46_system_control.md): a control or system register written, from a register or from memory;
one stored, to a register or to memory; the two pops of RTE; then the statements, instruction by instruction. -/

namespace Sys2Proof.Machine

/-! ### MACH as the manual writes it (R340, R358) -/

theorem signExtend10_eq_truncate (v : Word) : signExtend10 v = (v.truncate 10).signExtend 32 := by
  rw [signExtend10, BitVec.truncate_eq_setWidth, BitVec.setWidth_eq_extractLsb' (by decide)]

theorem machForm_eq (ser : Series) (v : Word) : machForm ser v = match ser with
    | .sh7600 => v
    | .sh7000 => (v.truncate 10).signExtend 32 := by
  cases ser with
  | sh7600 => rfl
  | sh7000 => exact signExtend10_eq_truncate v

theorem machForm_zero (ser : Series) : machForm ser 0 = 0 := by
  cases ser with
  | sh7600 => rfl
  | sh7000 => decide

theorem State.setMach_eq (s : State) (v : Word) : s.setMach v = { s with mach := match s.params.series with
    | .sh7600 => v
    | .sh7000 => (v.truncate 10).signExtend 32 } := by
  rw [State.setMach, machForm_eq]

theorem State.clearMac_eq (s : State) : (s.setMach 0).setMacl 0 = { s with mach := 0, macl := 0 } := by
  rw [State.setMach, machForm_zero]
  rfl

/-! ### A control or system register written -/

/-- The updates LDC and LDS make, one for each control or system register (R334-R345). -/
inductive ControlWrite : (State → Word → State) → Prop where
  | sr : ControlWrite State.setSr
  | gbr : ControlWrite State.setGbr
  | vbr : ControlWrite State.setVbr
  | mach : ControlWrite State.setMach
  | macl : ControlWrite State.setMacl
  | pr : ControlWrite State.setPr

section
variable {i : Instr} {s : State} {m : Reg} {put : State → Word → State}

theorem ControlWrite.setDraws (h : ControlWrite put) (s : State) (v : Word) (d : Nat) :
    put (s.setDraws d) v = (put s v).setDraws d := by
  cases h <;> rfl

theorem ControlWrite.sequential (h : ControlWrite put) (s : State) (v : Word) :
    Sequential s (put s v).advanceInhibit true := by
  cases h <;> exact .of_advanceInhibit rfl rfl

/-- LDC and LDS from a register, but for LDC to SR; `u` is the state written, as the statement gives it. -/
theorem ControlWrite.exists_of_doneInhibit {u : State} {v : Word} (h : ControlWrite put)
    (hi : exec i s = (put s v).doneInhibit) (hu : put s v = u) (hsr : u.sr = s.sr) :
    ∃ t, exec i s = .next t ∧ t.sr = s.sr ∧ Frame u t [] [] ∧ Sequential s t true := by
  subst hu
  exact ⟨_, hi, hsr, (Frame.refl _ [] []).advanceInhibit, h.sequential s v⟩

/-- LDC.L and LDS.L: the value read is written, then Rm advances; `base` is the state written, as the statement gives it. -/
theorem ControlWrite.loads {base : Word → State → State} {post : Word → State → Prop} (h : ControlWrite put)
    (hi : exec i s = s.loadControl m put) (hbase : ∀ v u, put u v = base v u)
    (hpost : ∀ v t, t.reg m = s.reg m + 4 → t.sr = (base v s).sr → post v t) :
    Loads i s (s.reg m) .long [m] post base true := by
  obtain rfl : (fun v u => put u v) = base := funext₂ hbase
  refine .of_load hi fun v d => ?_
  rw [h.setDraws]
  have hseq : Sequential s (put s v).advanceInhibit true := h.sequential s v
  exact ⟨_, rfl, hpost v _ (State.reg_setReg_self _ m _) rfl, rfl,
    (((Frame.refl (put s v) [m] []).setDraws _).setReg List.mem_cons_self _).advanceInhibit,
    ⟨hseq.pc, hseq.slot, hseq.inhibit, hseq.afterUntaken⟩⟩

end

/-! ### A control or system register stored -/

section
variable {i : Instr} {s : State} {n : Reg} {x v : Word}

/-- STC and STS to a register, of `x`, which the statement gives as `v`. -/
theorem exists_of_setReg_doneInhibit (hi : exec i s = (s.setReg n x).doneInhibit) (hx : x = v) :
    ∃ t, exec i s = .next t ∧ t.reg n = v ∧ t.sr = s.sr ∧ Frame s t [n] [] ∧ Sequential s t true := by
  subst hx
  exact ⟨_, hi, State.reg_setReg_self s n x, rfl, ((Frame.refl s [n] []).setReg List.mem_cons_self x).advanceInhibit,
    .of_advanceInhibit rfl rfl⟩

/-- STC.L and STS.L: Rn takes the address before the store, so an address error leaves it decremented (log 12). -/
theorem Stores.of_storeControl (hi : exec i s = s.storeControl n x) (hx : x = v) :
    Stores i s (s.reg n - 4) .long v [n] (fun t => t.reg n = s.reg n - 4) (s.setReg n (s.reg n - 4)) true := by
  subst hx
  have hframe (bytes) : Frame s (s.setReg n (s.reg n - 4)) [n] bytes :=
    (Frame.refl s [n] bytes).setReg List.mem_cons_self _
  refine ⟨fun h => ?_, fun h => ?_,
    fun h => hi.trans (State.store_misaccess (s := s.setReg n (s.reg n - 4)) h x _),
    fun h => hi.trans (State.store_unmapped (s := s.setReg n (s.reg n - 4)) h x _)⟩
  · exact ⟨_, hi.trans (State.store_ordinary (s := s.setReg n (s.reg n - 4)) h x _),
      State.bytes_putValue _ _ x .long, (State.putValue_reg _ _ x _ n).trans (State.reg_setReg_self s n _),
      State.putValue_sr _ _ x _, ((hframe _).putValue (fun _ hb => hb) x).advanceInhibit,
      .of_advanceInhibit (State.putValue_pc _ _ x _) (State.putValue_slot _ _ x _)⟩
  · exact ⟨_, hi.trans (State.store_device (s := s.setReg n (s.reg n - 4)) h x _), State.reg_setReg_self s n _, rfl,
      ((hframe []).deviceWrite _ x .long).advanceInhibit, .of_advanceInhibit rfl rfl⟩

end

/-! ### The two pops of RTE -/

/-- Where the PC can be popped, what follows is the pop of SR, from the state the first left. -/
theorem State.returnFromException_of_first {s : State} {d : Nat} (h : s.readable (s.reg Reg.sp) .long d) :
    ∃ target, s.reads (s.reg Reg.sp) .long target d ∧ s.returnFromException =
      (s.operandRead Reg.sp .long d).load (s.reg Reg.sp + 4) .long fun sr u =>
        .next (((u.setReg Reg.sp (u.reg Reg.sp + 4)).setSr sr).delayedBranch target) := by
  obtain ⟨target, hreads, hload⟩ := State.load_readable h
  refine ⟨target, hreads, (hload _).trans ?_⟩
  have hsp : (s.operandRead Reg.sp .long d).reg Reg.sp = s.reg Reg.sp + 4 := State.reg_setReg_self _ _ _
  rw [← hsp]
  rfl

/-! ### The mode SLEEP enters -/

theorem Frame.setMode {s t : State} {regs : List Reg} {bytes : List Word} (h : Frame s t regs bytes) (mode : Mode) :
    Frame { s with mode := mode } (t.setMode mode) regs bytes :=
  ⟨h.regs, h.gbr, h.vbr, h.mach, h.macl, h.pr, rfl, h.memory, h.params, h.inputs, h.sby, h.deviceWrites, h.draws⟩

theorem Sequential.setMode {s t : State} {heldOff : Bool} (h : Sequential s t heldOff) (mode : Mode) :
    Sequential s (t.setMode mode) heldOff :=
  ⟨h.pc, h.slot, h.inhibit, h.afterUntaken⟩

/-! ### The statements -/

/-- Settles O41: T or the accumulator is the one effect; 0 is held in MACH of either series as it is. -/
theorem clearsAndNop : Obligations.ClearsAndNop := fun s =>
  ⟨⟨.of_encode rfl, .of_setT rfl⟩, ⟨.of_encode rfl, .of_setT rfl⟩,
    ⟨.of_encode rfl, _, rfl, rfl, (Frame.refl s [] []).advance, .of_advance rfl rfl⟩,
    ⟨.of_encode rfl, _, congrArg State.done s.clearMac_eq, s.advance_accumulator 0 0⟩⟩

/-- Settles O42: each writes one register; SR is outside the frame and keeps the bits of H'3F3 of what is written. -/
theorem loadsOfControlAndSystemRegisters : Obligations.LoadsOfControlAndSystemRegisters := fun _ s =>
  ⟨⟨.of_codeN rfl rfl, _, rfl, StatusReg.toWord_ofWord _, ((Frame.refl s [] []).setSr _).advanceInhibit,
      .of_advanceInhibit rfl rfl⟩,
    ⟨.of_codeN rfl rfl, ControlWrite.gbr.exists_of_doneInhibit rfl rfl rfl⟩,
    ⟨.of_codeN rfl rfl, ControlWrite.vbr.exists_of_doneInhibit rfl rfl rfl⟩,
    ⟨.of_codeN rfl rfl, ControlWrite.mach.exists_of_doneInhibit rfl (s.setMach_eq _) rfl⟩,
    ⟨.of_codeN rfl rfl, ControlWrite.macl.exists_of_doneInhibit rfl rfl rfl⟩,
    ⟨.of_codeN rfl rfl, ControlWrite.pr.exists_of_doneInhibit rfl rfl rfl⟩⟩

/-- Settles O43: one form for all six; LDC.L to SR alone says more of the value loaded. -/
theorem loadsOfControlAndSystemRegistersFromMemory : Obligations.LoadsOfControlAndSystemRegistersFromMemory := by
  refine fun m s => ⟨⟨.of_codeN rfl rfl, ControlWrite.sr.loads rfl (fun _ _ => rfl) fun v t hreg hsr => ⟨hreg, ?_⟩⟩,
    ⟨.of_codeN rfl rfl, ControlWrite.gbr.loads rfl (fun _ _ => rfl) fun _ _ hreg _ => hreg⟩,
    ⟨.of_codeN rfl rfl, ControlWrite.vbr.loads rfl (fun _ _ => rfl) fun _ _ hreg _ => hreg⟩,
    ⟨.of_codeN rfl rfl, ControlWrite.mach.loads rfl (fun v u => u.setMach_eq v) fun _ _ hreg _ => hreg⟩,
    ⟨.of_codeN rfl rfl, ControlWrite.macl.loads rfl (fun _ _ => rfl) fun _ _ hreg _ => hreg⟩,
    ⟨.of_codeN rfl rfl, ControlWrite.pr.loads rfl (fun _ _ => rfl) fun _ _ hreg _ => hreg⟩⟩
  rw [hsr]
  exact StatusReg.toWord_ofWord v

/-- Settles O44: one form for all six; SR and MACH read as the manual lays them out. -/
theorem storesOfControlAndSystemRegisters : Obligations.StoresOfControlAndSystemRegisters := fun _ s =>
  ⟨⟨.of_codeN rfl rfl, exists_of_setReg_doneInhibit rfl s.sr.toWord_eq_fields⟩,
    ⟨.of_codeN rfl rfl, exists_of_setReg_doneInhibit rfl rfl⟩,
    ⟨.of_codeN rfl rfl, exists_of_setReg_doneInhibit rfl rfl⟩,
    ⟨.of_codeN rfl rfl, exists_of_setReg_doneInhibit rfl (machForm_eq _ _)⟩,
    ⟨.of_codeN rfl rfl, exists_of_setReg_doneInhibit rfl rfl⟩,
    ⟨.of_codeN rfl rfl, exists_of_setReg_doneInhibit rfl rfl⟩⟩

/-- Settles O45: one form for all six, with the values of O44. -/
theorem storesOfControlAndSystemRegistersToMemory : Obligations.StoresOfControlAndSystemRegistersToMemory := fun _ s =>
  ⟨⟨.of_codeN rfl rfl, .of_storeControl rfl s.sr.toWord_eq_fields⟩, ⟨.of_codeN rfl rfl, .of_storeControl rfl rfl⟩,
    ⟨.of_codeN rfl rfl, .of_storeControl rfl rfl⟩, ⟨.of_codeN rfl rfl, .of_storeControl rfl (machForm_eq _ _)⟩,
    ⟨.of_codeN rfl rfl, .of_storeControl rfl rfl⟩, ⟨.of_codeN rfl rfl, .of_storeControl rfl rfl⟩⟩

/-- Settles O46: the first pop, where it succeeds, leaves the second to be done from its state, which reads the memory
and the map of the one before. -/
theorem returnFromException : Obligations.ReturnFromException := by
  refine fun s => ⟨.of_encode rfl, .of_rewritesPc rfl, fun hs => ?_⟩
  have hi : exec .rte s = s.returnFromException := State.notInSlot_of_mayBranch hs _
  refine ⟨fun h1 h2 => ?_, fun h => hi.trans (State.load_misaccess h _), fun d h1 h2 => ?_,
    fun h => hi.trans (State.load_unmapped h _), fun h1 h2 => ?_⟩
  · obtain ⟨d, hd⟩ := State.exists_readable h1
    obtain ⟨e, he⟩ := State.exists_readable h2
    obtain ⟨target, htarget, hfirst⟩ := State.returnFromException_of_first hd
    obtain ⟨sr, hsr, hsecond⟩ := State.load_readable (s := s.operandRead Reg.sp .long d) he
    have hframe : Frame { s with draws := s.draws + d + e }
        ((s.operandRead Reg.sp .long d).operandRead Reg.sp .long e) [15] [] :=
      ((Frame.refl s [15] []).operandRead List.mem_cons_self .long d).operandRead List.mem_cons_self .long e
    have hsp : ((s.operandRead Reg.sp .long d).operandRead Reg.sp .long e).reg 15 = s.reg 15 + 8 := by
      simp [State.reg_operandRead, Size.bytes, BitVec.add_assoc]
    exact ⟨target, sr, d, e, _, htarget, hsr, hi.trans (hfirst.trans (hsecond _)), StatusReg.toWord_ofWord sr, hsp, rfl,
      rfl, rfl, rfl, (hframe.setSr sr).delayedBranch target⟩
  · obtain ⟨target, -, hfirst⟩ := State.returnFromException_of_first h1
    exact hi.trans (hfirst.trans (State.load_misaccess (s := s.operandRead Reg.sp .long d) h2 _))
  · obtain ⟨d, hd⟩ := State.exists_readable h1
    obtain ⟨target, -, hfirst⟩ := State.returnFromException_of_first hd
    exact hi.trans (hfirst.trans (State.load_unmapped (s := s.operandRead Reg.sp .long d) h2 _))

/-- Settles O47: outside a delay slot it is the entry of an exception that changes no mask. -/
theorem trap : Obligations.Trap := by
  refine fun imm s => ⟨.of_codeImm rfl rfl, .of_rewritesPc rfl, fun hs henter => ?_⟩
  have hi : exec (.trapa imm) s = s.enterException imm (s.pc + 2) none := State.notInSlot_of_mayBranch hs _
  rw [hi]
  exact State.enterException_entered (s.pc + 2) none henter

/-- Settles O48: the mode is the one the SBY bit selects, which a chip without a device register reads as 0. -/
theorem sleep : Obligations.Sleep := by
  intro s
  have hseq : Sequential s s.advance false := .of_advance rfl rfl
  refine ⟨.of_encode rfl, _, rfl, rfl, ?_, ?_, (Frame.refl s [] []).advance.setMode _, hseq.setMode _⟩
  · exact (ite_eq_or_eq _ _ _).symm
  · rw [← State.standbyBit_iff]
    cases s.standbyBit <;> simp

end Sys2Proof.Machine
end

section
/-! PROOFS. Taking an exception: what is stacked and where control goes, for CPU address errors too, and where it ends the
run (60_exceptions.md R404-R409). -/

namespace Sys2Proof.Machine

/-! ### Entries that end the run (R409) -/

theorem State.enterException_misaccess_stack {s : State} (h : s.misaccess (s.reg Reg.sp - 4) .long) (v : BitVec 8)
    (spc : Word) (mask : Option (BitVec 4)) : s.enterException v spc mask = .fault .addressErrorInEntry :=
  State.entryStore_misaccess (s := s.setReg Reg.sp (s.reg Reg.sp - 4)) h _ _

/-- Where both pushes are ordinary, the rest of the entry runs from the state that has made them. -/
theorem State.enterException_of_ordinary_stack {s : State} (hsr : s.ordinary (s.reg Reg.sp - 4) .long)
    (hpc : s.ordinary (s.reg Reg.sp - 8) .long) (v : BitVec 8) (spc : Word) (mask : Option (BitVec 4)) :
    s.enterException v spc mask = ((s.pushSrPc spc).setMask mask).entryLoad ((s.pushSrPc spc).vectorAddress v)
      fun handler t => .next (t.enterHandler handler) := by
  have hsecond : s.reg Reg.sp - 4 - 4 = s.reg Reg.sp - 8 := by bv_omega
  have hfirst : (s.setReg Reg.sp (s.reg Reg.sp - 4)).ordinary (s.reg Reg.sp - 4) .long := hsr
  have hpushed : (((s.setReg Reg.sp (s.reg Reg.sp - 4)).putValue (s.reg Reg.sp - 4) s.sr.toWord .long).setReg Reg.sp
      (s.reg Reg.sp - 8)).ordinary (s.reg Reg.sp - 8) .long :=
    State.ordinary.putValue (s := s.setReg Reg.sp (s.reg Reg.sp - 4)) hpc (s.reg Reg.sp - 4) s.sr.toWord .long
  unfold State.enterException State.entryPush
  rw [State.entryStore_ordinary hfirst]
  simp only [State.putValue_reg, State.reg_setReg_self, hsecond]
  rw [State.entryStore_ordinary hpushed]
  rfl

/-- The pushes and the mask leave VBR and the memory map, which decide the access to the vector. -/
theorem State.misaccess.pushed {s : State} {a : Word} {sz : Size} (h : s.misaccess a sz) (spc : Word)
    (mask : Option (BitVec 4)) : ((s.pushSrPc spc).setMask mask).misaccess a sz := by
  simpa [State.misaccess, State.pushSrPc] using h

theorem State.pushSrPc_vectorAddress (s : State) (spc : Word) (v : BitVec 8) :
    (s.pushSrPc spc).vectorAddress v = s.vectorAddress v := by
  simp [State.vectorAddress, State.pushSrPc]

/-! ### The statements -/

/-- Settles O49: the entry, for every vector, stacked address and mask. -/
theorem exceptionEntry : Obligations.ExceptionEntry := fun _ _ spc mask henter =>
  State.enterException_entered spc mask henter

/-- Settles O50: the first push stops the entry, or the fetch of the vector after both pushes. -/
theorem entryWithMisalignedStackOrVectorStops : Obligations.EntryWithMisalignedStackOrVectorStops := by
  refine fun s v spc mask => ⟨fun h => State.enterException_misaccess_stack h v spc mask, fun hsr hpc h => ?_⟩
  rw [State.enterException_of_ordinary_stack hsr hpc, State.pushSrPc_vectorAddress]
  exact State.entryLoad_misaccess (State.misaccess.pushed h spc mask) _

/-- Settles O51: the stacked address is the free value drawn, and the entry starts from the state that has drawn it. -/
theorem addressErrorEntry : Obligations.AddressErrorEntry := by
  intro s henter
  have hdrawn : (s.setDraws (s.draws + 1)).canEnter s.params.vecAddrErrCPU :=
    ⟨henter.savedSr, henter.savedPc, henter.vector⟩
  obtain ⟨t, ht, hentered⟩ := State.enterException_entered (Config.addrErrSavedPC s.draws) none hdrawn
  have hdraws : t.draws = s.draws + 1 := hentered.frame.draws
  refine ⟨t, Config.addrErrSavedPC s.draws, ht, ?_⟩
  rw [hdraws]
  exact hentered

end Sys2Proof.Machine
end

section
/-! PROOFS. The processing states (60_exceptions.md R430-R437) and the reset (70_reset_and_hazards.md R450): what each does
at a boundary, with the environment's entry consumed. -/

namespace Sys2Proof.Machine

/-! ### The environment's entry -/

theorem State.takeInput_nil {s : State} (h : s.inputs = []) : s.takeInput = (.quiet, s) := by
  rw [State.takeInput, h]

theorem State.takeInput_cons {s : State} {e : EnvInput} {rest : List EnvInput} (h : s.inputs = e :: rest) :
    s.takeInput = (e, s.after e rest) := by
  rw [State.takeInput, h]
  rfl

/-- An exhausted environment asks for nothing. -/
theorem EnvInput.quiet_idleFor (s : State) : EnvInput.quiet.idleFor s :=
  ⟨rfl, rfl, .inr (.inr ⟨rfl, fun _ hq => nomatch hq⟩)⟩

/-! ### The step, by what the boundary decides -/

section
variable {s u : State} {e : EnvInput} (hu : s.takeInput = (e, u))
include hu

theorem step_of_reset {kind : ResetKind} (hr : e.reset = some kind) : step s = u.resetSequence kind :=
  step_of_boundary_done (by simp only [State.boundary, hu, hr])

theorem step_of_otherMode {r : Result} (hr : e.reset = none) (h : u.otherMode e = some r) : step s = r :=
  step_of_boundary_done (by simp only [State.boundary, hu, hr, h])

/-! ### Each processing state -/

theorem step_of_resetMode {kind : ResetKind} (hr : e.reset = none) (hm : u.mode = .reset kind) :
    step s = u.resetFetch kind :=
  step_of_otherMode hu hr (by simp only [State.otherMode, hm])

theorem step_of_sleep_idle (hm : u.mode = .sleep) (h : e.idleFor u) : step s = .next u := by
  have ⟨hr, hb, _⟩ := h
  refine step_of_otherMode hu hr ?_
  simp [State.otherMode, hm, hb, State.asyncEvent_idle h]

theorem step_of_standby_no_nmi (hr : e.reset = none) (hm : u.mode = .standby) (hn : Request.nmi ∉ e.requests) :
    step s = .next u := by
  refine step_of_otherMode hu hr ?_
  simp [State.otherMode, hm, State.standbyEvent, hn]

theorem step_of_standby_nmi (hr : e.reset = none) (hm : u.mode = .standby) (hq : u.quiescent)
    (hn : Request.nmi ∈ e.requests) : step s = u.acceptInterrupt .nmi := by
  obtain ⟨hslot, hinhibit, -⟩ := hq
  refine step_of_otherMode hu hr ?_
  simp [State.otherMode, hm, State.standbyEvent, State.testMade, hslot, hinhibit, hn]

/-- The bus is kept from the CPU in one way, whether the device has it already or is given it now. -/
theorem step_of_busRequest {asleep : Bool} (hr : e.reset = none) (hb : e.busRequest = true)
    (hm : u.mode = .programExecution ∧ asleep = false ∨ u.mode = .sleep ∧ asleep = true ∨
      u.mode = .busRelease asleep) : step s = .next (u.releaseBus e asleep) := by
  rcases hm with ⟨hm, rfl⟩ | ⟨hm, rfl⟩ | hm
  · exact step_of_boundary_done (by
      simp only [State.boundary, hu, hr, State.otherMode, hm, State.programBoundary, hb, if_true])
  · exact step_of_otherMode hu hr (by simp only [State.otherMode, hm, hb, if_true])
  · have hkept : u.releaseBus e asleep = u.busWrite e.busWrites := by
      rw [State.releaseBus, State.busWrite_eq, ← hm]
      rfl
    rw [hkept]
    exact step_of_otherMode hu hr (by simp only [State.otherMode, hm, hb, if_true])

theorem step_of_busReturned {asleep : Bool} (hr : e.reset = none) (hb : e.busRequest = false)
    (hm : u.mode = .busRelease asleep) :
    step s = .next (u.setMode (if asleep then .sleep else .programExecution)) :=
  step_of_otherMode hu hr (by simp only [State.otherMode, hm, hb, Bool.false_eq_true, if_false])

end

/-! ### The other device's writes (R437) -/

theorem State.byteAt_busWrite_outside (s : State) (ws : List (Word × Byte)) {a : Word}
    (h : a ∉ ws.map fun w => w.1) : (s.busWrite ws).byteAt a = s.byteAt a := by
  induction ws generalizing s with
  | nil => rfl
  | cons w rest ih =>
    simp only [List.map_cons, List.mem_cons, not_or] at h
    obtain ⟨hw, hrest⟩ := h
    rw [State.busWrite, ih _ hrest, State.byteAt_setByte, if_neg hw]

theorem State.busWrite_frame (s : State) (ws : List (Word × Byte)) :
    Frame s (s.busWrite ws) [] (ws.map fun w => w.1) := by
  have hsame := s.busWrite_eq ws
  have houtside : ∀ a, a ∉ ws.map (fun w => w.1) → (s.busWrite ws).byteAt a = s.byteAt a := fun _ =>
    s.byteAt_busWrite_outside ws
  generalize s.busWrite ws = t at hsame houtside
  generalize t.mem = mem at hsame
  subst hsame
  exact ⟨fun _ _ => rfl, rfl, rfl, rfl, rfl, rfl, rfl, houtside, rfl, rfl, rfl, rfl, rfl⟩

/-! ### The two fetches of a reset (R450) -/

theorem State.vectorAddress_of_vbr_zero {s : State} (h : s.vbr = 0) (v : BitVec 8) :
    s.vectorAddress v = v.zeroExtend 32 * 4 := by
  simp [State.vectorAddress, h]

/-- Where both entries of the vector table are in ordinary memory, PC and R15 are loaded from them, the program starts, and
every other register and all of memory stay. -/
theorem State.resetFetch_ordinary {s : State} {kind : ResetKind} {pcEntry spEntry : Word}
    (hpcEntry : s.vectorAddress (Params.vecResetPC s.params kind) = pcEntry)
    (hspEntry : s.vectorAddress (Params.vecResetSP s.params kind) = spEntry)
    (hpc : s.ordinary pcEntry .long) (hsp : s.ordinary spEntry .long) :
    ∃ t, s.resetFetch kind = .next t ∧ t.pc = s.longAt pcEntry ∧ t.reg 15 = s.longAt spEntry ∧ t.sr = s.sr ∧
      t.slot = none ∧ t.inhibit = false ∧ t.afterUntaken = false ∧
      Frame { s with mode := .programExecution } t [15] [] := by
  have hfetch : s.resetFetch kind =
      .next ((s.setReg Reg.sp (s.longAt spEntry)).enterHandler (s.longAt pcEntry)) := by
    simp only [State.resetFetch, hpcEntry, State.entryLoad_ordinary hpc, hspEntry, State.entryLoad_ordinary hsp]
  exact ⟨_, hfetch, rfl, State.reg_setReg_self _ _ _, rfl, rfl, rfl, rfl,
    ((Frame.refl s [15] []).setReg List.mem_cons_self _).enterHandler _⟩

/-- Whether an access is to ordinary memory depends on the memory map alone. -/
theorem State.ordinary.congr {s t : State} {a : Word} {sz : Size} (h : s.ordinary a sz) (hp : t.params = s.params) :
    t.ordinary a sz := by
  obtain ⟨haligned, hregion⟩ := h
  exact ⟨haligned, by rw [State.region, hp]; exact hregion⟩

/-! ### What the registers of a reset leave -/

@[simp] theorem State.resetRegisters_vbr (s : State) : s.resetRegisters.vbr = 0 := by
  simp only [State.resetRegisters]

@[simp] theorem State.resetRegisters_mask (s : State) : s.resetRegisters.sr.i = 0xF := by
  simp only [State.resetRegisters]

@[simp] theorem State.resetRegisters_params (s : State) : s.resetRegisters.params = s.params := by
  simp only [State.resetRegisters]

@[simp] theorem State.resetRegisters_inputs (s : State) : s.resetRegisters.inputs = s.inputs := by
  simp only [State.resetRegisters]

@[simp] theorem State.resetRegisters_sby (s : State) : s.resetRegisters.sby = s.sby := by
  simp only [State.resetRegisters]

@[simp] theorem State.resetRegisters_deviceWrites (s : State) : s.resetRegisters.deviceWrites = s.deviceWrites := by
  simp only [State.resetRegisters]

@[simp] theorem State.resetRegisters_byteAt (s : State) (a : Word) : s.resetRegisters.byteAt a = s.byteAt a := by
  rw [State.byteAt, State.resetRegisters_mem, State.byteAt]

/-- The whole of a reset: the two fetches from the vector table at address 0, with the registers that a reset leaves. -/
theorem State.resetSequence_ordinary {s : State} {kind : ResetKind} {pcEntry spEntry : Word}
    (hpcEntry : (Params.vecResetPC s.params kind).zeroExtend 32 * 4 = pcEntry)
    (hspEntry : (Params.vecResetSP s.params kind).zeroExtend 32 * 4 = spEntry)
    (hpc : s.ordinary pcEntry .long) (hsp : s.ordinary spEntry .long) :
    ∃ t, s.resetSequence kind = .next t ∧ t.vbr = 0 ∧ t.sr.i = 0xF ∧ t.slot = none ∧ t.inhibit = false ∧
      t.afterUntaken = false ∧ t.pc = s.longAt pcEntry ∧ t.reg 15 = s.longAt spEntry ∧ t.mode = .programExecution ∧
      (∀ a, t.byteAt a = s.byteAt a) ∧ t.params = s.params ∧ t.inputs = s.inputs ∧ t.sby = s.sby ∧
      t.deviceWrites = s.deviceWrites := by
  have hreset : s.resetSequence kind = s.resetRegisters.resetFetch kind := by rw [State.resetSequence]
  have hvbr := s.resetRegisters_vbr
  have hmask := s.resetRegisters_mask
  have hparams := s.resetRegisters_params
  have hinputs := s.resetRegisters_inputs
  have hsby := s.resetRegisters_sby
  have hwrites := s.resetRegisters_deviceWrites
  have hbyte := s.resetRegisters_byteAt
  -- of the registers that the reset leaves nothing else is used
  generalize s.resetRegisters = u at hreset hvbr hmask hparams hinputs hsby hwrites hbyte
  rw [← hparams] at hpcEntry hspEntry
  obtain ⟨t, ht, htpc, htsp, hsr, hslot, hinhibit, huntaken, hframe⟩ :=
    State.resetFetch_ordinary ((State.vectorAddress_of_vbr_zero hvbr _).trans hpcEntry)
      ((State.vectorAddress_of_vbr_zero hvbr _).trans hspEntry) (hpc.congr hparams) (hsp.congr hparams)
  exact ⟨t, hreset.trans ht, hframe.vbr.trans hvbr, by rw [hsr, hmask], hslot, hinhibit, huntaken,
    htpc.trans (State.longAt_congr hbyte _), htsp.trans (State.longAt_congr hbyte _), hframe.mode,
    fun a => (hframe.memory a List.not_mem_nil).trans (hbyte a), hframe.params.trans hparams,
    hframe.inputs.trans hinputs, hframe.sby.trans hsby, hframe.deviceWrites.trans hwrites⟩

/-! ### The statements -/

/-- Settles O54: neither an exhausted environment nor one that asks for nothing above the mask ends the sleep. -/
theorem sleepLastsUntilAnAcceptableEvent : Obligations.SleepLastsUntilAnAcceptableEvent := fun s _ _ hm =>
  ⟨fun hi => step_of_sleep_idle (State.takeInput_nil hi) hm (EnvInput.quiet_idleFor s),
    fun hi hr hb hd hq =>
      step_of_sleep_idle (State.takeInput_cons hi) hm ⟨hr, hb, .inr (.inr ⟨hd, hq⟩)⟩⟩

/-- Settles O55: of the requests NMI alone is looked at, and it is accepted as any interrupt is. -/
theorem onlyNmiOrResetEndsStandby : Obligations.OnlyNmiOrResetEndsStandby := by
  refine fun s e rest hm hi hr => ⟨step_of_standby_no_nmi (State.takeInput_cons hi) hr hm, fun hn hq henter => ?_⟩
  rw [step_of_standby_nmi (State.takeInput_cons hi) hr hm hq hn]
  exact State.enterException_entered s.pc (some 15) (henter.after e rest)

/-- Settles O56: a reset request is answered first, by the two fetches. -/
theorem resetFromAnyState : Obligations.ResetFromAnyState := by
  intro s e rest kind hi hr pcEntry spEntry hpc hsp
  rw [step_of_reset (State.takeInput_cons hi) hr]
  exact State.resetSequence_ordinary (s := s.after e rest) rfl rfl hpc hsp

/-- Settles O57: the two fetches, from the registers as they are. -/
theorem firstStepAfterReset : Obligations.FirstStepAfterReset := by
  intro s kind hm hvbr hi pcEntry spEntry hpc hsp
  have hentry := State.vectorAddress_of_vbr_zero hvbr
  rw [step_of_resetMode (State.takeInput_nil hi) rfl hm]
  exact State.resetFetch_ordinary (hentry _) (hentry _) hpc hsp

/-- Settles O58: the bus away changes the mode and the bytes written; the bus back changes the mode. -/
theorem busReleaseIsAPause : Obligations.BusReleaseIsAPause := by
  refine fun s e rest hi hr => ⟨fun asleep hm hb => ?_, fun asleep hm hb =>
    step_of_busReturned (State.takeInput_cons hi) hr hb hm⟩
  have hframe := (s.after e rest).busWrite_frame e.busWrites
  have hbytes := (s.after e rest).byteAt_busWrite e.busWrites
  refine ⟨_, step_of_busRequest (State.takeInput_cons hi) hr hb hm, ?_, ?_, ?_, ?_, ?_, hbytes, hframe.setMode _⟩ <;>
  · rw [State.releaseBus, State.busWrite_eq]
    rfl

end Sys2Proof.Machine
end

section
/-! PROOFS. A step of program execution: the instruction it runs, and how it can leave program execution (60_exceptions.md
R433, R434, R437). -/

namespace Sys2Proof.Machine

/-! ### The instruction at `pc` -/

theorem State.fetchDecode_assigned {s : State} {i : Instr} (h : s.ordinary s.pc .word)
    (hcode : decodeWord (s.wordAt s.pc) = some i) : s.fetchDecode = .instr i := by
  simp only [State.fetchDecode, State.instrFetch_ordinary h, hcode]

theorem State.decodeWord_of_fetchDecode {s : State} {i : Instr} (h : s.fetchDecode = .instr i) :
    decodeWord (s.wordAt s.pc) = some i := by
  unfold State.fetchDecode at h
  split at h
  · cases h
  · cases h
  · next code hcode =>
    unfold State.instrFetch at hcode
    split at hcode
    · split at hcode <;> cases hcode
      split at h <;> cases h
      assumption
    · cases hcode

/-- Consuming the environment's entry leaves the code at `pc`. -/
theorem State.takeInput_code (s : State) :
    s.takeInput.2.wordAt s.takeInput.2.pc = s.byteAt s.pc ++ s.byteAt (s.pc + 1) := by
  unfold State.takeInput
  split <;> rfl

theorem State.takeInput_mode (s : State) : s.takeInput.2.mode = s.mode := by
  unfold State.takeInput
  split <;> rfl

theorem State.otherMode_of_programExecution {s : State} (hm : s.mode = .programExecution) (e : EnvInput) :
    s.otherMode e = none := by
  simp only [State.otherMode, hm]

/-! ### The mode after an instruction -/

/-- The next state, if there is one, is in program execution. -/
abbrev Runs (r : Result) : Prop := NextHas (fun t => t.mode = .programExecution) r

/-- An exception leads to program execution, whatever mode it is taken in (60_exceptions.md R432). -/
theorem State.enterException_runs (s : State) (v : BitVec 8) (spc : Word) (mask : Option (BitVec 4)) :
    Runs (s.enterException v spc mask) := by
  refine (s.enterException_keeps v spc mask).mono fun t ht => ?_
  obtain ⟨-, -, -, hmode, -⟩ := ht
  exact hmode

theorem State.illegalCode_runs (s : State) : Runs s.illegalCode :=
  State.illegalCode_has (fun _ => s.enterException_runs _ _ _) (s.enterException_runs _ _ _)

theorem State.resetSequence_runs (s : State) (kind : ResetKind) : Runs (s.resetSequence kind) :=
  State.entryLoad_has fun _ _ => State.entryLoad_has fun _ _ => rfl

theorem State.notInSlot_runs {s : State} {k : Result} (hk : Runs k) : Runs (s.notInSlot k) :=
  State.notInSlot_has (fun _ => s.enterException_runs _ _ _) hk

theorem State.onSH7600_runs {s : State} {k : Result} (hk : Runs k) : Runs (s.onSH7600 k) :=
  State.onSH7600_has s.illegalCode_runs hk

section
variable {s : State} (hm : s.mode = .programExecution)
include hm

theorem State.load_runs {a : Word} {sz : Size} {k : Word → State → Result}
    (hk : ∀ v s', s'.mode = .programExecution → Runs (k v s')) : Runs (s.load a sz k) :=
  State.load_has (fun v d => hk v (s.setDraws d) hm) (State.enterException_runs _ _ _ _)

theorem State.store_runs {a v : Word} {sz : Size} {k : State → Result}
    (hk : ∀ s', s'.mode = .programExecution → Runs (k s')) : Runs (s.store a sz v k) :=
  State.store_has (hk _ ((s.putValue_mode a v sz).trans hm)) (hk _ hm) (State.enterException_runs _ _ _ _)

theorem State.done_runs : Runs s.done := hm

theorem State.loadControl_runs {put : State → Word → State} (m : Reg) (hput : ∀ s v, (put s v).mode = s.mode) :
    Runs (s.loadControl m put) :=
  State.load_runs hm fun v s' h => (hput s' v).trans h

theorem State.storeControl_runs (n : Reg) (v : Word) : Runs (s.storeControl n v) :=
  State.store_runs (s := s.setReg n _) hm fun _ h => h

theorem State.loadPostInc_runs (m n : Reg) (sz : Size) : Runs (s.loadPostInc m n sz) :=
  State.load_runs hm fun _ _ h => by
    split
    · exact h
    · exact h

theorem State.modifyByte_runs (f : Byte → Byte) : Runs (s.modifyByte f) :=
  State.load_runs hm fun _ _ h1 => State.store_runs h1 fun _ h2 => h2

theorem State.macOperands_runs {m n : Reg} {sz : Size} {k : Word → Word → State → Result}
    (hk : ∀ x y s', s'.mode = .programExecution → Runs (k x y s')) : Runs (s.macOperands m n sz k) :=
  State.load_runs hm fun x s1 h1 =>
    State.load_runs (s := s1.setReg n _) h1 fun y s3 h3 => hk x y (s3.setReg m _) h3

theorem State.pop_runs {k : Word → State → Result} (hk : ∀ v s', s'.mode = .programExecution → Runs (k v s')) :
    Runs (s.pop k) :=
  State.load_runs hm fun v s' h => hk v (s'.setReg Reg.sp _) h

/-- No instruction but SLEEP leaves program execution. -/
theorem exec_runs {i : Instr} (hi : i ≠ .sleep) : Runs (exec i s) := by
  cases i with
  | sleep => exact absurd rfl hi
  -- an effect on registers and flags, then the next instruction
  | movReg | movImm | mova | movt | swapB | swapW | xtrct | add | addImm | addc | addv | cmpEqImm | cmpEq | cmpHs
      | cmpGe | cmpHi | cmpGt | cmpPl | cmpPz | cmpStr | div0s | div0u | div1 | extsB | extsW | extuB | extuW | neg | negc
      | sub | subc | subv | mulsW | muluW | andReg | andImm | notReg | orReg | orImm | tstReg | tstImm | xorReg | xorImm
      | rotl | rotr | rotcl | rotcr | shal | shar | shll | shlr | shll2 | shll8 | shll16 | shlr2 | shlr8 | shlr16
      | clrt | clrmac | nop | sett | ldcSr | ldcGbr | ldcVbr | ldsMach | ldsMacl | ldsPr | stcSr | stcGbr | stcVbr
      | stsMach | stsMacl | stsPr => exact hm
  | dt | dmulsL | dmuluL | mulL => exact State.onSH7600_runs hm
  -- accesses to memory
  | movBLoad | movWLoad | movLLoad | movBLoadIdx | movWLoadIdx | movLLoadIdx | movWLoadPc | movLLoadPc | movBLoadGbr
      | movWLoadGbr | movLLoadGbr | movBLoadDisp | movWLoadDisp | movLLoadDisp | tstMem =>
    exact State.load_runs hm fun _ _ h => h
  | movBStore | movWStore | movLStore | movBStoreIdx | movWStoreIdx | movLStoreIdx | movBStoreGbr | movWStoreGbr
      | movLStoreGbr | movBStoreDisp | movWStoreDisp | movLStoreDisp | movBStoreDec | movWStoreDec | movLStoreDec =>
    exact State.store_runs hm fun _ h => h
  | movBLoadInc | movWLoadInc | movLLoadInc => exact State.loadPostInc_runs hm _ _ _
  | andMem imm => exact State.modifyByte_runs hm fun b => b &&& imm
  | orMem imm => exact State.modifyByte_runs hm fun b => b ||| imm
  | xorMem imm => exact State.modifyByte_runs hm fun b => b ^^^ imm
  | tas => exact State.load_runs hm fun v s' h1 =>
      State.store_runs (s := s'.setT (v.extractLsb' 0 8 == 0)) h1 fun _ h2 => State.done_runs h2
  | macL => exact State.onSH7600_runs (State.macOperands_runs hm fun _ _ _ h => h)
  | macW =>
    exact State.macOperands_runs hm fun _ _ s' h =>
      State.done_runs (((Effect.refl (fun _ => true) s').macWordSum rfl rfl _ _).mode.trans h)
  | ldcLSr | ldcLGbr | ldcLVbr | ldsLMach | ldsLMacl | ldsLPr => exact State.loadControl_runs hm _ fun _ _ => rfl
  | stcLSr | stcLGbr | stcLVbr | stsLMach | stsLMacl | stsLPr => exact State.storeControl_runs hm _ _
  -- branches, and the instructions that may not stand in a delay slot
  | bf | bt =>
    refine State.notInSlot_runs ?_
    split <;> exact hm
  | bfS | btS =>
    refine State.onSH7600_runs (State.notInSlot_runs ?_)
    split <;> exact hm
  | bra | bsr | jmp | jsr | rts => exact State.notInSlot_runs hm
  | braf | bsrf => exact State.onSH7600_runs (State.notInSlot_runs hm)
  | rte => exact State.notInSlot_runs (State.pop_runs hm fun _ _ h1 => State.pop_runs h1 fun _ _ h2 => h2)
  | trapa => exact State.notInSlot_runs (s.enterException_runs _ _ _)

/-- A step of program execution ends in program execution, gives the bus away, or is the SLEEP at `pc`. -/
theorem step_leaves : NextHas (fun t => t.mode = .programExecution ∨ t.mode = .busRelease false ∨
    s.takeInput.2.fetchDecode = .instr .sleep ∧ exec .sleep s.takeInput.2 = .next t) (step s) := by
  have hu : s.takeInput.2.mode = .programExecution := s.takeInput_mode.trans hm
  exact step_has (e := s.takeInput.1) (u := s.takeInput.2) rfl
    (hreset := fun kind _ => (State.resetSequence_runs _ kind).mono fun _ => .inl)
    (hother := fun _ hr => by simp only [State.otherMode_of_programExecution hu, reduceCtorEq] at hr)
    (hrelease := fun _ => .inr (.inl rfl))
    (hevent := fun _ _ hr => (State.asyncEvent_has (State.enterException_runs _ _ _ _)
      (fun _ => State.enterException_runs _ _ _ _) hr).mono fun _ => .inl)
    (hfetch := fun _ _ hr => (State.fetchDecode_has (State.enterException_runs _ _ _ _)
      (State.illegalCode_runs _) hr).mono fun _ => .inl)
    (hexec := fun _ i hi => by
      by_cases h : i = .sleep
      · subst h
        exact .inr (.inr ⟨hi, rfl⟩)
      · exact (exec_runs hu h).mono fun _ => .inl)

end

/-- What O48 says of SLEEP, read at its next state. -/
theorem exec_sleep_mode {s t : State} (h : exec .sleep s = .next t) :
    (t.mode = .sleep ∨ t.mode = .standby) ∧ (t.mode = .standby ↔ t.sby = true ∧ ∃ a, t.deviceAt a) := by
  obtain ⟨-, t', ht', -, hmode, hstandby, hframe, -⟩ := sleep s
  obtain rfl : t' = t := by simpa [ht'] using h
  have hsby : t'.sby = s.sby := hframe.sby
  have hparams : t'.params = s.params := hframe.params
  have hdevice : ∀ a, t'.deviceAt a ↔ s.deviceAt a := fun a => by
    simp only [State.deviceAt, State.region, hparams]
  refine ⟨hmode, hstandby.trans ?_⟩
  simp only [hsby, hdevice]

/-! ### The statements -/

/-- Settles O6: nothing turns the step aside, and the fetch reads the bytes at `pc`, which consuming the environment's
entry leaves. -/
theorem stepRunsTheDecodedInstruction : Obligations.StepRunsTheDecodedInstruction := fun s _ hm hpc hcode =>
  ⟨fun hi => step_of_fetched_instr (State.boundary_of_idleAt hm (.inl ⟨hi, rfl⟩))
      (State.fetchDecode_assigned hpc hcode),
    fun e rest hi he => step_of_fetched_instr (State.boundary_of_idleAt hm (.inr ⟨e, rest, hi, he, rfl⟩))
      (State.fetchDecode_assigned (s := s.after e rest) hpc hcode)⟩

/-- Settles O8: of the three ways a step of program execution can end, the SLEEP at `pc` alone is a power-down mode. -/
theorem onlySleepEntersPowerDown : Obligations.OnlySleepEntersPowerDown := by
  intro s t hm hstep
  have hleaves := step_leaves hm
  rw [hstep] at hleaves
  rcases hleaves with hrun | hbus | ⟨hfetch, hexec⟩
  · exact ⟨.inl hrun, fun h => by simp [hrun] at h⟩
  · exact ⟨.inr (.inl hbus), fun h => by simp [hbus] at h⟩
  · obtain ⟨hmode, hstandby⟩ := exec_sleep_mode hexec
    exact ⟨.inr (.inr hmode), fun _ => ⟨s.takeInput_code ▸ State.decodeWord_of_fetchDecode hfetch, hstandby⟩⟩

end Sys2Proof.Machine
end
